-- ==== Sys2Proof/Word.lean ====
section
/-! DEFINITION. The word types of the part: bytes, 16-bit words and 19-bit memory addresses (spec 00 "Conventions"). -/

namespace Sys2Proof

/-- One byte of memory, of the host data bus or of the management port. -/
abbrev Byte := BitVec 8

/-- A 16-bit value: sequence and open numbers, generations, store counts, the alert mask, check values. -/
abbrev Word16 := BitVec 16

/-- A 19-bit memory address, as on HA18 to HA0 and MA18 to MA0. -/
abbrev Addr := BitVec 19

end Sys2Proof
end

