-- ==== Sys2Proof/Config.lean ====
section
/-! DEFINITION. What the model fixes where the spec leaves it open, and the model's one free value. -/

namespace Sys2Proof

/-- What a byte of memory reads as that nothing has written. The spec gives the memory no first content.
DESIGN CHOICE (log 3), unsafe: another content is as possible. -/
def Config.unlistedByte : Byte := 0x00

/-- The IMAGE bytes of a staging slot after the supply was lost: R45 clears a slot's fields but no rule sets IMAGE,
and the supply's loss takes what it held. A FREE VALUE: no body, nothing can be proved of it (log 4, safe).
The first argument is the draw (State.freeDraws), the second the slot's number. -/
opaque Config.lostImage : Nat → Nat → Vector Byte 128

end Sys2Proof
end

