-- ==== Sys2Proof/Syntax.lean ====
section
/-! DEFINITION. The commands: one constructor of `Instr` per row of spec/opcode_table.json, with the operands that the
row's rules give it. -/

namespace Sys2Proof

/-- The levels of the strap pins (R137); a Bool is true for high. -/
structure Straps where
  msz : BitVec 2
  jsz : BitVec 2
  afmt : Bool
  defro : Bool
  deriving DecidableEq, Repr

/-- What the memory device answers to the access in flight. `ok`: as R36 says, a read returns the byte held and a write
leaves the written byte. `bad b`: the memory fails (6.3, "the memory is not holding what the part writes into it"): a
read returns `b`, a write leaves `b` at the address. A write torn by a loss of supply is `bad` too. Log 7, safe. -/
inductive MemAnswer where
  | ok
  | bad (b : Byte)
  deriving DecidableEq, Repr

/-- Which claim is served first in the races that lie inside one completed access: a freed slot between the held host
write and STORE PROFILE (R52); the arbiter's choice between the request that the re-decoded write posts and the requests
before it, and between an engine's next request and the requests before it (R38); and the port between a waiting requester
and the entry to FAULTED (R124). `heldFirst`: the held write, its request, and the entry to FAULTED. `otherFirst`: the
other one. `heldThenTake` and `takeFirst`: as these two, but an engine's take or placement that is next in the queue posts
its request before the choice is made, `takeFirst` before the held write is decoded too. Log 8, safe. -/
inductive Order where
  | heldFirst
  | otherFirst
  | heldThenTake
  | takeFirst
  deriving DecidableEq, Repr

/-- The eight bytes of the region-entry encoding, in the order sent (12.4). -/
structure EntryBytes where
  b0 : Byte
  b1 : Byte
  b2 : Byte
  b3 : Byte
  b4 : Byte
  b5 : Byte
  b6 : Byte
  b7 : Byte
  deriving DecidableEq, Repr

/-- The fifteen management commands (R192). -/
inductive MgmtCommand where
  | status | report | peek | take | getRegion | putRegion | getMask | mask | setDefault | slot
  | storeProfile | loadProfile | format | resume | discardHeld
  deriving DecidableEq, Repr

/-- The eight entry bytes of a PUT_REGION: all of them, or the first `n` of these, when the transaction has not come
further (R187). -/
inductive EntryArg where
  | whole (e : EntryBytes)
  | first (e : EntryBytes) (n : Fin 8)
  deriving DecidableEq, Repr

/-- The commands the block takes. Each is one whole step (spec 95). A parameter byte of a management command is `some b`
when it is complete and none when it is not: with all of them complete the command is at its effect point (R189), and
otherwise its transaction has come to the end of the last byte given; what would follow a missing byte is not there
(R187; log 9). -/
inductive Instr where
  /-- POWER_UP (R138): the supply reaches operating level with these straps. -/
  | powerUp (straps : Straps)
  /-- SUPPLY_LOSS (R155): the supply is lost; `answer` says what becomes of an access in flight. -/
  | supplyLoss (answer : MemAnswer)
  /-- PFAIL_ASSERT (R154): PFAIL# is asserted; `answer` says how the access in flight completes. -/
  | pfailAssert (answer : MemAnswer)
  /-- PFAIL_RESTART (R156): PFAIL# is released. -/
  | pfailRestart
  /-- HOST_RESET (R24): SRST# is asserted. -/
  | hostReset
  /-- HOST_RESET_RELEASE (R24): SRST# is released. -/
  | hostResetRelease
  /-- HOST_CYCLE (R20): HSEL#, HRD# and HWR# (true for asserted) with an address and a data byte. -/
  | hostCycle (sel rd wr : Bool) (addr : Addr) (data : Byte)
  /-- HOST_CYCLE_END (R21): the host releases HSEL# or the strobe after the answer. -/
  | hostCycleEnd
  /-- HOST_CYCLE_WITHDRAWN (R21): the host releases HSEL# or the strobe before the answer. -/
  | hostCycleWithdrawn
  /-- MEMORY_ACCESS_COMPLETE (R36): the access in flight completes with this answer. -/
  | memoryAccessComplete (answer : MemAnswer) (order : Order)
  /-- WRITER_TAKE_GROUP (R108). -/
  | writerTakeGroup
  /-- WRITER_PLACE (R111). -/
  | writerPlace
  /-- APPLIER_TAKE_ENTRY (R118). -/
  | applierTakeEntry
  /-- TRANSACTION_BEGIN (R187): SCS# falls. -/
  | transactionBegin
  /-- TRANSACTION_END (R190): SCS# rises. -/
  | transactionEnd
  /-- BAD_COMMAND (R188): a command byte that names no command completes. -/
  | badCommand (code : Byte)
  /-- STATUS (R195) reaches its effect point, as every management command below does. -/
  | status
  /-- REPORT (R196). -/
  | report
  /-- REPORT_READ_COMPLETE (R152): the eighth response byte of REPORT completes. -/
  | reportReadComplete
  /-- PEEK (R179). -/
  | peek
  /-- TAKE (R180). -/
  | take
  /-- TAKE_REMOVE (R180): the eighth response byte of TAKE completes. -/
  | takeRemove
  /-- GET_REGION (R17). -/
  | getRegion (index : Option Byte)
  /-- PUT_REGION (R10). -/
  | putRegion (index : Option Byte) (entry : EntryArg)
  /-- SLOT (R66). -/
  | slot (index : Option Byte)
  /-- STORE_PROFILE (R167). -/
  | storeProfile
  /-- LOAD_PROFILE (R166). -/
  | loadProfile
  /-- FORMAT (R102). -/
  | format
  /-- RESUME (R126). -/
  | resume
  /-- DISCARD_HELD (R77). -/
  | discardHeld (trigger : Option Byte)
  /-- MASK (R181): the new mask, most significant byte first. -/
  | mask (high low : Option Byte)
  /-- SET_DEFAULT (R171): a class code. -/
  | setDefault (code : Option Byte)
  /-- GET_MASK (R198). -/
  | getMask
  deriving DecidableEq, Repr

end Sys2Proof
end

