-- ==== Sys2Proof/Decode.lean ====
section
/-! DEFINITION. Decoding: the management port's decoding of a command byte (R188, R192, 12.8), and `decodeTableWord`,
which answers none because no row of spec/opcode_table.json gives bits. -/

namespace Sys2Proof

/-- The command code table of 12.8. -/
def MgmtCommand.code : MgmtCommand → Byte
  | .status => 0x01
  | .report => 0x02
  | .peek => 0x03
  | .take => 0x04
  | .getRegion => 0x10
  | .putRegion => 0x11
  | .getMask => 0x12
  | .mask => 0x13
  | .setDefault => 0x14
  | .slot => 0x20
  | .storeProfile => 0x30
  | .loadProfile => 0x31
  | .format => 0x32
  | .resume => 0x40
  | .discardHeld => 0x41

/-- P, the parameter bytes of a command (R192). -/
def MgmtCommand.paramBytes : MgmtCommand → Nat
  | .getRegion | .slot | .discardHeld | .setDefault => 1
  | .mask => 2
  | .putRegion => 9
  | .status | .report | .peek | .take | .storeProfile | .loadProfile | .format | .resume | .getMask => 0

/-- R, the response bytes after the status byte (R192). -/
def MgmtCommand.responseBytes : MgmtCommand → Nat
  | .status => 14
  | .report | .peek | .take | .getRegion | .slot => 8
  | .discardHeld => 1
  | .getMask => 2
  | .putRegion | .storeProfile | .loadProfile | .format | .resume | .mask | .setDefault => 0

/-- The fifteen commands, in the order of 12.8. -/
def MgmtCommand.all : List MgmtCommand :=
  [.status, .report, .peek, .take, .getRegion, .putRegion, .getMask, .mask, .setDefault, .slot,
    .storeProfile, .loadProfile, .format, .resume, .discardHeld]

/-- The command a command byte names, none for an unknown code (R188). -/
def commandOfByte (b : Byte) : Option MgmtCommand :=
  MgmtCommand.all.find? fun c => c.code == b

/-- The command that a word spells by the opcode table's bits: none, since no row of the table gives bits (log 18). -/
def decodeTableWord (_nbits _w : Nat) : Option Instr :=
  none

end Sys2Proof
end

