-- ==== Sys2Proof/WellFormed.lean ====
section
/-! DEFINITION. Which commands are well formed. Every operand type admits only values that the pins can carry (an operand
behind a missing parameter byte is not looked at), so one check is left: the code of BAD_COMMAND names no command (R188). -/

namespace Sys2Proof

/-- R188: a BAD_COMMAND carries a code that names none of the fifteen commands. -/
def Instr.wf : Instr → Bool
  | .badCommand code => (commandOfByte code).isNone
  | .powerUp _ | .supplyLoss _ | .pfailAssert _ | .pfailRestart | .hostReset | .hostResetRelease
  | .hostCycle _ _ _ _ _ | .hostCycleEnd | .hostCycleWithdrawn | .memoryAccessComplete _ _
  | .writerTakeGroup | .writerPlace | .applierTakeEntry | .transactionBegin | .transactionEnd
  | .status | .report | .reportReadComplete | .peek | .take | .takeRemove | .getRegion _
  | .putRegion _ _ | .slot _ | .storeProfile | .loadProfile | .format | .resume | .discardHeld _
  | .mask _ _ | .setDefault _ | .getMask => true

end Sys2Proof
end

