-- ==== Sys2Proof/Machine/State.lean ====
section
/-! DEFINITION. The state of the part: everything the spec names, as plain data, block by block; the reasons a step can
stop; and the state at reset. -/

namespace Sys2Proof.Machine

/-! ## Why a step stops -/

/-- The model's fault. -/
inductive Fault where
  /-- Raised by MEMORY_ACCESS_COMPLETE, PFAIL_ASSERT and SUPPLY_LOSS when the access in flight names an address at or
  above M: the memory has no such byte (00 "Memory Geometry"). Safe: no state that a run reaches makes one (log 10). -/
  | beyondMemory
  deriving DecidableEq, Repr

/-- The model's refusals. -/
inductive Refusal where
  /-- Raised by `exec` for a command that has no meaning yet. Safe. No arm uses it. -/
  | notModelled (mnemonic : String)
  /-- Raised by BAD_COMMAND with a code that names a command: such a term is not well formed (`Instr.wf`, R188). Safe
  (log 20). -/
  | illFormed
  deriving DecidableEq, Repr

/-! ## Supply, pins and the controller (chapter 7) -/

/-- The input pins whose level the part must know between happenings. The host strobes and the straps come as operands
of HOST_CYCLE and POWER_UP (log 19). -/
structure Pins where
  /-- SRST# is asserted (R24). -/
  srst : Bool
  /-- PFAIL# is asserted (R154). -/
  pfail : Bool
  /-- SCS# is low (R186). -/
  scsLow : Bool
  deriving DecidableEq, Repr

/-- The operating states (R133). -/
inductive OpState where
  | starting | recovering | initload | running | reloading | locked | faulted | frozen
  deriving DecidableEq, Repr

/-- The FAULTED cause (R136). -/
inductive FaultCause where
  | noCause | journal | apply | recovery
  deriving DecidableEq, Repr

/-- The outcome of a recovery (R150). -/
inductive RecoveryOutcome where
  | clean | replayed | formatted | noAnchor | fault
  deriving DecidableEq, Repr

/-- What a recovery followed (R150). -/
inductive StartCause where
  | powerup | pfail
  deriving DecidableEq, Repr

/-- The recovery report (R150). -/
structure RecoveryReport where
  outcome : RecoveryOutcome
  /-- 0 to 255. -/
  replayCount : Nat
  lag : Bool
  damaged : Bool
  oneAnchor : Bool
  unread : Bool
  generation : Word16
  cause : StartCause
  straps : Straps
  /-- 0 to 255, saturating. -/
  firstFaults : Nat
  deriving DecidableEq, Repr

/-- One segment of an entry that recovery has read: its home address and its data (R144). -/
structure ReplaySegment where
  home : Nat
  length : Nat
  deriving DecidableEq, Repr

/-- What recovery is doing: reading the anchors (R140), examining a position (R141), in one of the three steps of a
replay (R145, R146), making the automatic format (R105), or nothing. -/
inductive RecoveryPhase where
  | idle | anchors | scan | home | retire | anchor | format
  deriving DecidableEq, Repr

/-- Recovery's working state (R139), and the entry it is replaying (R144). -/
structure Recovery where
  phase : RecoveryPhase
  /-- The bytes read so far: of both anchor copies, or of the entry at `p`. -/
  buf : List Byte
  p : Nat
  expected : Word16
  first : Bool
  advance : Nat
  replays : Nat
  lag : Bool
  damaged : Bool
  oneAnchor : Bool
  retry : Nat
  firstFaults : Nat
  /-- The head offset of the anchor copy in use. -/
  anchorHead : Nat
  segments : List ReplaySegment
  /-- L of the entry being replayed. -/
  length : Nat
  /-- The segment in work. -/
  seg : Nat
  /-- The step within the segment, the mark or the anchor write. -/
  idx : Nat
  deriving DecidableEq, Repr

/-- The start-up and recovery controller. -/
structure Controller where
  opState : OpState
  /-- HRSTO# is asserted (R135). -/
  hrsto : Bool
  cause : FaultCause
  straps : Straps
  report : RecoveryReport
  /-- The operating state that FROZEN interrupted (R156). -/
  interrupted : OpState
  /-- What the recovery in progress, or the last one, followed (R151). -/
  startCause : StartCause
  /-- The store count last loaded or stored (R160). -/
  lastCount : Word16
  /-- The profile bytes the loader has read (R161). -/
  loader : List Byte
  /-- The next write of the format in progress (R103), none without one. -/
  format : Option Nat
  recovery : Recovery
  deriving DecidableEq, Repr

/-! ## The region table (chapter 1) -/

/-- The class of a region entry (R1). -/
inductive RegionClass where
  | openClass | record | readonly
  deriving DecidableEq, Repr

/-- A region entry (R1). -/
structure RegionEntry where
  valid : Bool
  cls : RegionClass
  base : Addr
  limit : Addr
  rsize : Nat
  commit : Nat
  follows : Option (Fin 8)
  deriving DecidableEq, Repr

/-- The live default class (R3). -/
inductive DefaultClass where
  | openClass | readonly
  deriving DecidableEq, Repr

/-- The region table block (R1, R3, R4). -/
structure RegionTable where
  entries : Vector RegionEntry 8
  defaultClass : DefaultClass
  mask : Word16
  deriving DecidableEq, Repr

/-! ## The staging store (chapters 3 and 4) -/

/-- The states of a slot (R42). -/
inductive SlotState where
  | free | filling | held | queued | writing | logged | applying
  deriving DecidableEq, Repr

/-- The REGION field of a slot (R41). -/
inductive SlotRegion where
  | noRegion | entry (index : Fin 8) | profile
  deriving DecidableEq, Repr

/-- A staging slot (R41). -/
structure Slot where
  state : SlotState
  region : SlotRegion
  home : Option Addr
  length : Nat
  image : Vector Byte 128
  /-- The written mask: bit k is set when the slot holds offset k. -/
  written : BitVec 128
  openNumber : Word16
  waitsOn : Option (Fin 8)
  group : Option (Fin 8)
  deriving DecidableEq, Repr

/-- A group (R55): its tag and its slots in segment order. -/
structure Group where
  tag : Fin 8
  slots : List (Fin 8)
  deriving DecidableEq, Repr

/-- The staging store. -/
structure Staging where
  slots : Vector Slot 8
  openCounter : Word16
  /-- The commit queue, oldest group first (R55). -/
  queue : List Group
  /-- The held list of each region index, oldest first (R68). -/
  held : Vector (List (Fin 8)) 8
  /-- The live record slots in order of allocation, oldest first; a record's version chain is its slots in this order
  (R57). -/
  chain : List (Fin 8)
  deriving DecidableEq, Repr

/-! ## The journal description (chapter 5) -/

/-- The two anchor copies (R99). -/
inductive AnchorCopy where
  | a | b
  deriving DecidableEq, Repr

/-- An item of the live-entry list (R91). -/
structure LiveEntry where
  pos : Nat
  length : Nat
  seq : Word16
  group : Group
  deriving DecidableEq, Repr

/-- The part's description of the journal (5.3, R100). -/
structure Journal where
  live : List LiveEntry
  tail : Nat
  head : Nat
  /-- The held count (R92). -/
  held : Nat
  nextWrite : Word16
  nextApply : Word16
  inUse : Option AnchorCopy
  generation : Word16
  deriving DecidableEq, Repr

/-! ## The commit engine (chapter 6) -/

/-- The Writer's phases (R107). -/
inductive WriterPhase where
  | idle | merge | place | write | verify | mark
  deriving DecidableEq, Repr

/-- The Writer (R107). -/
structure Writer where
  phase : WriterPhase
  group : Option Group
  /-- L, fixed when the group is taken (R108). -/
  length : Nat
  retry : Nat
  pos : Nat
  seq : Word16
  check : Word16
  /-- The PAD offset of a wrapped entry with a tail below J (R111). -/
  padAt : Option Nat
  /-- The step within WRITE, VERIFY or MARK. -/
  idx : Nat
  /-- The clearing writes left to make, and the next offset to clear (R149). -/
  clearing : Nat
  clearAt : Nat
  /-- The MODEL's own field: RESUME came while the access in flight at the entry to FAULTED was not complete; the Writer
  goes on by R127 when it is (log 32). -/
  resuming : Bool
  deriving DecidableEq, Repr

/-- The Applier's phases (R117). -/
inductive ApplierPhase where
  | idle | home | retire | anchor
  deriving DecidableEq, Repr

/-- The Applier (R117). Its entry in work is the head of the live-entry list. -/
structure Applier where
  phase : ApplierPhase
  seg : Nat
  idx : Nat
  retry : Nat
  /-- The MODEL's own field: as the Writer's, with R128 (log 32). -/
  resuming : Bool
  deriving DecidableEq, Repr

/-! ## The host port and the memory port (chapter 2) -/

/-- A host cycle is a read or a write (R20). -/
inductive CycleKind where
  | read | write
  deriving DecidableEq, Repr

/-- The classes the decoder finds (R8). -/
inductive AddrClass where
  | openClass | record | readonly | hidden | beyond
  deriving DecidableEq, Repr

/-- The record reference (R6). -/
structure RecordRef where
  region : Fin 8
  home : Addr
  offset : Nat
  length : Nat
  isCommit : Bool
  follows : Option (Fin 8)
  isTrigger : Bool
  deriving DecidableEq, Repr

/-- The result of an address lookup (R8): the class, the region entry if one holds the address, and for RECORD the
record reference. -/
structure Lookup where
  cls : AddrClass
  region : Option (Fin 8)
  ref : Option RecordRef
  deriving DecidableEq, Repr

/-- The phases of the cycle in progress (R22). -/
inductive HostPhase where
  | idle | waiting | access | holding | answered
  deriving DecidableEq, Repr

/-- The holds (R23). -/
inductive HoldKind where
  | startUp | reload | slot
  deriving DecidableEq, Repr

/-- Whether the host still waits for the answer, has withdrawn the cycle (R21), or SRST# has abandoned it (R24). -/
inductive CycleFate where
  | awaited | withdrawn | abandoned
  deriving DecidableEq, Repr

/-- The host port (2.1). -/
structure HostPort where
  phase : HostPhase
  kind : CycleKind
  addr : Addr
  data : Byte
  found : Option Lookup
  hold : Option HoldKind
  fate : CycleFate
  /-- The byte driven on HD, none for high-impedance (R21). -/
  hd : Option Byte
  deriving DecidableEq, Repr

/-- The requesters the arbiter serves in rotation (R38). -/
inductive Requester where
  | host | writer | applier
  deriving DecidableEq, Repr

/-- Who made an access: a requester, or one of recovery, the profile loader and the format (R39). -/
inductive AccessOwner where
  | requester (r : Requester)
  | system
  deriving DecidableEq, Repr

/-- A byte read or a byte write (R36). -/
inductive AccessOp where
  | read
  | write (b : Byte)
  deriving DecidableEq, Repr

/-- One memory access (R36). -/
structure Access where
  owner : AccessOwner
  addr : Nat
  op : AccessOp
  deriving DecidableEq, Repr

/-- The memory port and its arbiter (2.7). -/
structure MemPort where
  inFlight : Option Access
  lastGranted : Requester
  deriving DecidableEq, Repr

/-! ## Events (chapter 9) -/

/-- The sixteen kinds, in the order of their numbers 0 to 15 (R173 to R175). -/
inductive EventKind where
  | recovered | formatted | noAnchor | profileLoaded | profileBad | profileStored | stageFull | groupLimit
  | writeDenied | hiddenAccess | slotsDiscarded | journalFault | applyFault | faulted | pfailRestart | overflow
  deriving DecidableEq, Repr

/-- What a block reports: an event record without its serial (R172). -/
structure EventReport where
  kind : EventKind
  detail : Byte
  region : Option (Fin 8)
  address : Option Addr
  count : Byte
  deriving DecidableEq, Repr

/-- An event record (R172). -/
structure EventRecord where
  report : EventReport
  serial : Byte
  deriving DecidableEq, Repr

/-- The event block (R176, R178, R182). -/
structure EventBlock where
  queue : List EventRecord
  serial : Byte
  /-- ALERT# is asserted. -/
  alert : Bool
  deriving DecidableEq, Repr

/-! ## The management port (chapter 10) -/

/-- The port's phases (R186). -/
inductive MgmtPhase where
  | idle | command | parameters | result | trailer | blocked
  deriving DecidableEq, Repr

/-- The management port (R186). -/
structure MgmtPort where
  phase : MgmtPhase
  command : Option MgmtCommand
  params : List Byte
  /-- The complete bits of the byte time in progress, and the whole byte times since SCS# fell. -/
  bitPos : Nat
  bytePos : Nat
  /-- The status byte and the response bytes, from the effect point on. -/
  status : Byte
  response : List Byte
  /-- A recovery report was written after the effect point of the REPORT in progress (R152). -/
  stale : Bool
  deriving DecidableEq, Repr

/-! ## Memory and the whole state -/

/-- The external memory: (address, byte) pairs in canonical form (`Memory.wf`); an address that is not listed reads
`Config.unlistedByte`. -/
abbrev Memory := List Host.Cell

/-- The state of the part, its pins, its memory, and the queue of commands that wait. -/
structure State where
  /-- The commands waiting, first in, first out. -/
  pending : List Instr
  /-- The supply is at operating level (R134). -/
  supply : Bool
  pins : Pins
  ctrl : Controller
  table : RegionTable
  stage : Staging
  journal : Journal
  writer : Writer
  applier : Applier
  host : HostPort
  port : MemPort
  events : EventBlock
  mgmt : MgmtPort
  mem : Memory
  /-- The MODEL's own field: how many free values have been drawn (log 4). -/
  freeDraws : Nat
  deriving DecidableEq, Repr

/-! ## The values at reset -/

/-- R151: the report as STARTING clears it. -/
def RecoveryReport.cleared (t : Straps) : RecoveryReport where
  outcome := .clean
  replayCount := 0
  lag := false
  damaged := false
  oneAnchor := false
  unread := false
  generation := 0
  cause := .powerup
  straps := t
  firstFaults := 0

/-- No recovery in progress. -/
def Recovery.idle : Recovery where
  phase := .idle
  buf := []
  p := 0
  expected := 0
  first := false
  advance := 0
  replays := 0
  lag := false
  damaged := false
  oneAnchor := false
  retry := 0
  firstFaults := 0
  anchorHead := 0
  segments := []
  length := 0
  seg := 0
  idx := 0

/-- R1: the contents of an invalid entry. -/
def RegionEntry.invalid : RegionEntry where
  valid := false
  cls := .openClass
  base := 0
  limit := 0
  rsize := 0
  commit := 0
  follows := none

/-- R18: the table with all eight entries invalid. -/
def RegionTable.noEntries : Vector RegionEntry 8 :=
  Vector.replicate 8 RegionEntry.invalid

/-- R3: the default class of a sampled DEFRO level. -/
def DefaultClass.ofDefro (defro : Bool) : DefaultClass :=
  if defro then .readonly else .openClass

/-- R45: a FREE slot with its fields cleared; IMAGE keeps the bytes given. -/
def Slot.cleared (image : Vector Byte 128) : Slot where
  state := .free
  region := .noRegion
  home := none
  length := 0
  image := image
  written := 0
  openNumber := 0
  waitsOn := none
  group := none

/-- R63: the staging store with every slot FREE, each keeping its IMAGE. -/
def Staging.cleared (slots : Vector Slot 8) : Staging where
  slots := slots.map fun x => Slot.cleared x.image
  openCounter := 0
  queue := []
  held := Vector.replicate 8 []
  chain := []

/-- R98: the journal description at power-up. -/
def Journal.cleared : Journal where
  live := []
  tail := 0
  head := 0
  held := 0
  nextWrite := 0
  nextApply := 0
  inUse := none
  generation := 0

/-- R107: the Writer without a group. -/
def Writer.idle : Writer where
  phase := .idle
  group := none
  length := 0
  retry := 0
  pos := 0
  seq := 0
  check := 0
  padAt := none
  idx := 0
  clearing := 0
  clearAt := 0
  resuming := false

/-- R117: the Applier without an entry. -/
def Applier.idle : Applier where
  phase := .idle
  seg := 0
  idx := 0
  retry := 0
  resuming := false

/-- R22: the host port without a cycle. -/
def HostPort.idle : HostPort where
  phase := .idle
  kind := .read
  addr := 0
  data := 0
  found := none
  hold := none
  fate := .awaited
  hd := none

/-- R38: the free memory port of a power-up. -/
def MemPort.cleared : MemPort where
  inFlight := none
  lastGranted := .applier

/-- R184: the event block of a power-up. -/
def EventBlock.cleared : EventBlock where
  queue := []
  serial := 0
  alert := false

/-- R186: the management port outside a transaction, in the phase given. -/
def MgmtPort.quiet (phase : MgmtPhase) : MgmtPort where
  phase := phase
  command := none
  params := []
  bitPos := 0
  bytePos := 0
  status := 0
  response := []
  stale := false

/-- R186: IDLE when SCS# is high and BLOCKED when it is low. -/
def MgmtPort.fresh (scsLow : Bool) : MgmtPort :=
  MgmtPort.quiet (if scsLow then .blocked else .idle)

/-- R133, R135, R136, R138, R151, R160: the controller in STARTING with these straps sampled. -/
def Controller.starting (t : Straps) : Controller where
  opState := .starting
  hrsto := true
  cause := .noCause
  straps := t
  report := RecoveryReport.cleared t
  interrupted := .starting
  startCause := .powerup
  lastCount := 0
  loader := []
  format := none
  recovery := Recovery.idle

/-- R18: the table block of a power-up. -/
def RegionTable.starting (t : Straps) : RegionTable where
  entries := RegionTable.noEntries
  defaultClass := DefaultClass.ofDefro t.defro
  mask := 0xFFFF

/-- The straps at reset: all low. DESIGN CHOICE (log 2), unsafe. -/
def Straps.low : Straps where
  msz := 0
  jsz := 0
  afmt := false
  defro := false

/-- The part at reset: STARTING, the supply at operating level, every volatile field as R138 leaves it, the pins
released, the memory with nothing listed, no command waiting (log 1). -/
def State.reset : State where
  pending := []
  supply := true
  pins := { srst := false, pfail := false, scsLow := false }
  ctrl := Controller.starting Straps.low
  table := RegionTable.starting Straps.low
  stage := Staging.cleared (Vector.replicate 8 (Slot.cleared (Vector.replicate 128 0)))
  journal := Journal.cleared
  writer := Writer.idle
  applier := Applier.idle
  host := HostPort.idle
  port := MemPort.cleared
  events := EventBlock.cleared
  mgmt := MgmtPort.fresh false
  mem := []
  freeDraws := 0

/-! ## Updates of one field -/

/-- `s` with its pending replaced. -/
def State.setPending (s : State) (x : List Instr) : State := { s with pending := x }

/-- `s` with its supply replaced. -/
def State.setSupply (s : State) (x : Bool) : State := { s with supply := x }

/-- `s` with its pins replaced. -/
def State.setPins (s : State) (x : Pins) : State := { s with pins := x }

/-- `s` with its ctrl replaced. -/
def State.setCtrl (s : State) (x : Controller) : State := { s with ctrl := x }

/-- `s` with its table replaced. -/
def State.setTable (s : State) (x : RegionTable) : State := { s with table := x }

/-- `s` with its stage replaced. -/
def State.setStage (s : State) (x : Staging) : State := { s with stage := x }

/-- `s` with its journal replaced. -/
def State.setJournal (s : State) (x : Journal) : State := { s with journal := x }

/-- `s` with its writer replaced. -/
def State.setWriter (s : State) (x : Writer) : State := { s with writer := x }

/-- `s` with its applier replaced. -/
def State.setApplier (s : State) (x : Applier) : State := { s with applier := x }

/-- `s` with its host replaced. -/
def State.setHost (s : State) (x : HostPort) : State := { s with host := x }

/-- `s` with its port replaced. -/
def State.setPort (s : State) (x : MemPort) : State := { s with port := x }

/-- `s` with its events replaced. -/
def State.setEvents (s : State) (x : EventBlock) : State := { s with events := x }

/-- `s` with its mgmt replaced. -/
def State.setMgmt (s : State) (x : MgmtPort) : State := { s with mgmt := x }

/-- `s` with its mem replaced. -/
def State.setMem (s : State) (x : Memory) : State := { s with mem := x }

/-- `s` with its freeDraws replaced. -/
def State.setFreeDraws (s : State) (x : Nat) : State := { s with freeDraws := x }

end Sys2Proof.Machine
end

