-- ==== Sys2Proof/Machine/Operands.lean ====
section
/-! DEFINITION. Operand forms and byte layouts: the memory geometry, byte order (R207), the check value (R209), and every
layout of chapter 12 in both directions where the part both writes and reads it. -/

namespace Sys2Proof.Machine

/-! ## Memory geometry (00, R137) -/

/-- R137: M in bytes. -/
def memorySize (t : Straps) : Nat :=
  65536 * 2 ^ t.msz.toNat

/-- R137: J in bytes. -/
def journalSize (t : Straps) : Nat :=
  2048 * 2 ^ t.jsz.toNat

/-- R137: H = M - J - 128, the base of the hidden area. -/
def hiddenBase (t : Straps) : Nat :=
  memorySize t - journalSize t - 128

/-- 12.1: the address of an anchor copy. -/
def anchorBase (t : Straps) : AnchorCopy → Nat
  | .a => hiddenBase t
  | .b => hiddenBase t + 16

/-- 12.1, R159: the address of the profile block. -/
def profileBase (t : Straps) : Nat :=
  hiddenBase t + 32

/-- R83: the memory address of journal offset 0. -/
def journalBase (t : Straps) : Nat :=
  hiddenBase t + 128

/-- An address given as a number, on the 19 lines of MA18 to MA0. -/
def toAddr (n : Nat) : Addr :=
  BitVec.ofNat 19 n

/-! ## Byte order (R207) -/

/-- The most significant byte. -/
def highByte (w : Word16) : Byte :=
  w.extractLsb' 8 8

/-- The least significant byte. -/
def lowByte (w : Word16) : Byte :=
  w.extractLsb' 0 8

/-- R207: two bytes, most significant first. -/
def bytes16 (w : Word16) : List Byte :=
  [highByte w, lowByte w]

/-- R207: three bytes, most significant first. -/
def bytes24 (n : Nat) : List Byte :=
  [BitVec.ofNat 8 (n / 65536), BitVec.ofNat 8 (n / 256), BitVec.ofNat 8 n]

/-- R207: the 16-bit value of two bytes, most significant first. -/
def word16 (high low : Byte) : Word16 :=
  high ++ low

/-- R207: the number in three bytes, most significant first. -/
def nat24 (a b c : Byte) : Nat :=
  a.toNat * 65536 + b.toNat * 256 + c.toNat

/-- The byte at an offset of a byte string; 00h past its end. -/
def byteAt (bs : List Byte) (k : Nat) : Byte :=
  bs.getD k 0

/-- The big-endian 16-bit field at an offset of a byte string. -/
def wordAt (bs : List Byte) (k : Nat) : Word16 :=
  word16 (byteAt bs k) (byteAt bs (k + 1))

/-! ## The check value (R209) -/

/-- R209: one shift of the register. -/
def crcShift (r : Word16) : Word16 :=
  if r.msb then (r <<< 1) ^^^ 0x1021 else r <<< 1

/-- R209: one covered byte. -/
def crcByte (r : Word16) (b : Byte) : Word16 :=
  crcShift^[8] (r ^^^ word16 b 0)

/-- R209: the check value of the covered bytes. -/
def crc (covered : List Byte) : Word16 :=
  covered.foldl crcByte 0xFFFF

/-- R209: the bytes a check value covers in a journal entry or a profile block: bytes 1 to 5 and 8 onward. -/
def coveredBytes (bs : List Byte) : List Byte :=
  (bs.drop 1).take 5 ++ bs.drop 8

/-! ## Marks -/

/-- R86: VALID. -/
def markValid : Byte := 0xA5
/-- R86: RETIRED. -/
def markRetired : Byte := 0x5A
/-- R86: PAD. -/
def markPad : Byte := 0xC3
/-- R86: CLEARED. -/
def markCleared : Byte := 0x00
/-- R99: the anchor mark. -/
def markAnchor : Byte := 0x4C
/-- R159: the profile mark. -/
def markProfile : Byte := 0x50

/-! ## Class codes (12.4) -/

/-- 12.4: the CLASS bits of the region-entry encoding. -/
def RegionClass.code : RegionClass → Nat
  | .openClass => 0
  | .record => 1
  | .readonly => 2

/-- 12.4: the class that CLASS bits name, none for 11. -/
def regionClassOfCode (c : BitVec 2) : Option RegionClass :=
  if c = 0 then some .openClass
  else if c = 1 then some .record
  else if c = 2 then some .readonly
  else none

/-- 12.4: the default class code. -/
def DefaultClass.code : DefaultClass → Byte
  | .openClass => 0x00
  | .readonly => 0x02

/-- 12.4, R208: the default class a code names, none for any other code. -/
def defaultClassOfCode (b : Byte) : Option DefaultClass :=
  if b = 0x00 then some .openClass else if b = 0x02 then some .readonly else none

/-! ## The region-entry encoding (12.4, R208) -/

/-- The fields of the eight bytes as they stand, before any check. -/
structure RawEntry where
  valid : Bool
  cls : BitVec 2
  /-- 21 bits. -/
  base : Nat
  /-- 20 bits. -/
  limit : Nat
  rsize : Nat
  commit : Nat
  follows : BitVec 4
  deriving DecidableEq, Repr

/-- 12.4: the fields of an encoded entry. -/
def rawEntry (e : EntryBytes) : RawEntry where
  valid := e.b0.getLsbD 7
  cls := e.b0.extractLsb' 5 2
  base := nat24 (e.b0 &&& 0x1F) e.b1 e.b2
  limit := nat24 (e.b3 &&& 0x0F) e.b4 e.b5
  rsize := e.b6.toNat
  commit := e.b7.toNat
  follows := e.b3.extractLsb' 4 4

/-- R1, R208: the FOLLOWS code of an entry. -/
def followsCode : Option (Fin 8) → Nat
  | none => 15
  | some i => i.val

/-- 12.4, R208: the eight bytes of an entry. -/
def encodeEntry (e : RegionEntry) : List Byte :=
  [ BitVec.ofNat 8 ((if e.valid then 128 else 0) + e.cls.code * 32 + e.base.toNat / 65536),
    BitVec.ofNat 8 (e.base.toNat / 256), BitVec.ofNat 8 e.base.toNat,
    BitVec.ofNat 8 (followsCode e.follows * 16 + e.limit.toNat / 65536),
    BitVec.ofNat 8 (e.limit.toNat / 256), BitVec.ofNat 8 e.limit.toNat,
    BitVec.ofNat 8 e.rsize, BitVec.ofNat 8 e.commit ]

/-- The entry at an offset of a byte string. -/
def entryBytesAt (bs : List Byte) (k : Nat) : EntryBytes where
  b0 := byteAt bs k
  b1 := byteAt bs (k + 1)
  b2 := byteAt bs (k + 2)
  b3 := byteAt bs (k + 3)
  b4 := byteAt bs (k + 4)
  b5 := byteAt bs (k + 5)
  b6 := byteAt bs (k + 6)
  b7 := byteAt bs (k + 7)

/-! ## Anchor copies (12.2, R99) -/

/-- 12.2: bytes 1 to 6, which the check value covers. -/
def anchorCovered (generation : Word16) (head : Nat) (next : Word16) : List Byte :=
  bytes16 generation ++ bytes16 (BitVec.ofNat 16 head) ++ bytes16 next

/-- 12.2: bytes 1 to 15. -/
def anchorBody (generation : Word16) (head : Nat) (next : Word16) : List Byte :=
  anchorCovered generation head next ++ bytes16 (crc (anchorCovered generation head next))
    ++ List.replicate 7 0

/-- What a valid anchor copy says (R99). -/
structure AnchorRecord where
  generation : Word16
  head : Nat
  next : Word16
  deriving DecidableEq, Repr

/-- R99: the record in sixteen bytes, none when the copy is not valid. -/
def readAnchor (t : Straps) (bs : List Byte) : Option AnchorRecord :=
  if byteAt bs 0 = markAnchor ∧ crc ((bs.drop 1).take 6) = wordAt bs 7
      ∧ (wordAt bs 3).toNat ≤ journalSize t then
    some { generation := wordAt bs 1, head := (wordAt bs 3).toNat, next := wordAt bs 5 }
  else
    none

/-- R100: `y` is newer than `x`. -/
def newer (y x : Word16) : Bool :=
  decide (1 ≤ (y - x).toNat ∧ (y - x).toNat ≤ 32767)

/-- R100: the copy in use and its record. -/
def chooseAnchor : Option AnchorRecord → Option AnchorRecord → Option (AnchorCopy × AnchorRecord)
  | some a, some b => if newer b.generation a.generation then some (.b, b) else some (.a, a)
  | some a, none => some (.a, a)
  | none, some b => some (.b, b)
  | none, none => none

/-- R100: the other copy. -/
def AnchorCopy.other : AnchorCopy → AnchorCopy
  | .a => .b
  | .b => .a

/-! ## Journal entries (12.3, R84, R85, R90) -/

/-- 12.3: one segment as written, its home, its length byte and its data. -/
def segmentBytes (home : Nat) (data : List Byte) : List Byte :=
  bytes24 home ++ [BitVec.ofNat 8 (data.length - 1)] ++ data

/-- R89, 12.3: bytes 1 to 5 of an entry. -/
def entryHeader (seq : Word16) (count length : Nat) : List Byte :=
  bytes16 seq ++ [BitVec.ofNat 8 count] ++ bytes16 (BitVec.ofNat 16 length)

/-- R89, R209: the check value of an entry. -/
def entryCheck (seq : Word16) (count length : Nat) (segs : List Byte) : Word16 :=
  crc (entryHeader seq count length ++ segs)

/-- 12.3: bytes 1 to L - 1 of an entry. -/
def entryTail (seq : Word16) (count length : Nat) (check : Word16) (segs : List Byte) : List Byte :=
  entryHeader seq count length ++ bytes16 check ++ segs

/-- R85: the total length of an entry whose segments have these lengths. -/
def entryLength (lengths : List Nat) : Nat :=
  8 + (lengths.map (4 + ·)).sum

/-- A segment read from the journal. -/
structure Segment where
  home : Nat
  data : List Byte
  deriving DecidableEq, Repr

/-- R90, 12.3: walking `n` segments through exactly these bytes. A length byte above 7Fh expresses no length (R84: 1 to
128). DEDUCED (log 11). -/
def walkSegments : Nat → List Byte → Option (List Segment)
  | 0, [] => some []
  | 0, _ :: _ => none
  | n + 1, a :: b :: c :: d :: rest =>
    if d.toNat ≤ 127 ∧ d.toNat + 1 ≤ rest.length then
      (walkSegments n (rest.drop (d.toNat + 1))).map
        ({ home := nat24 a b c, data := rest.take (d.toNat + 1) } :: ·)
    else
      none
  | _ + 1, _ => none

/-- R90: a segment's range lies below H or is exactly the profile block. -/
def segmentInRange (t : Straps) (g : Segment) : Bool :=
  decide (g.home + g.data.length ≤ hiddenBase t
    ∨ (g.home = profileBase t ∧ g.data.length = 72))

/-- 12.3: the L field of a header. -/
def headerLength (bs : List Byte) : Nat :=
  (wordAt bs 4).toNat

/-- R90, but for the mark: the segments of the entry in these L bytes when it is well-formed at `p` for `s`. -/
def wellFormedEntry (t : Straps) (bs : List Byte) (p : Nat) (s : Word16) : Option (List Segment) :=
  if wordAt bs 1 = s ∧ 1 ≤ (byteAt bs 3).toNat ∧ (byteAt bs 3).toNat ≤ 4
      ∧ bs.length = headerLength bs ∧ p + headerLength bs ≤ journalSize t
      ∧ crc (coveredBytes bs) = wordAt bs 6 then
    match walkSegments (byteAt bs 3).toNat (bs.drop 8) with
    | some segs => if segs.all (segmentInRange t) then some segs else none
    | none => none
  else
    none

/-! ## The profile block (12.4, R159) -/

/-- 12.4: bytes 1 to 5 of the profile block. -/
def profileHeader (count : Word16) (d : DefaultClass) (mask : Word16) : List Byte :=
  bytes16 count ++ [d.code] ++ bytes16 mask

/-- 12.4: the 72 bytes of the profile block, mark first. -/
def profileImage (count : Word16) (d : DefaultClass) (mask : Word16)
    (entries : Vector RegionEntry 8) : List Byte :=
  let body := entries.toList.flatMap encodeEntry
  [markProfile] ++ profileHeader count d mask
    ++ bytes16 (crc (profileHeader count d mask ++ body)) ++ body

/-- R162: the block is good. -/
def profileGood (bs : List Byte) : Bool :=
  decide (byteAt bs 0 = markProfile ∧ crc (coveredBytes bs) = wordAt bs 6)

/-! ## Code tables of chapters 9, 10 and 12 -/

/-- 12.7: the operating-state codes. -/
def OpState.code : OpState → Byte
  | .starting => 0x00
  | .recovering => 0x01
  | .initload => 0x02
  | .running => 0x03
  | .reloading => 0x04
  | .locked => 0x05
  | .faulted => 0x06
  | .frozen => 0x07

/-- 12.7, R175: the FAULTED cause codes. -/
def FaultCause.code : FaultCause → Byte
  | .noCause => 0x00
  | .journal => 0x01
  | .apply => 0x02
  | .recovery => 0x03

/-- 12.7, R173: the outcome codes. -/
def RecoveryOutcome.code : RecoveryOutcome → Byte
  | .clean => 0x00
  | .replayed => 0x01
  | .formatted => 0x02
  | .noAnchor => 0x03
  | .fault => 0x04

/-- 12.7: the cause codes of REPORT. -/
def StartCause.code : StartCause → Byte
  | .powerup => 0x00
  | .pfail => 0x01

/-- 12.7: the slot-state codes. -/
def SlotState.code : SlotState → Byte
  | .free => 0x00
  | .filling => 0x01
  | .held => 0x02
  | .queued => 0x03
  | .writing => 0x04
  | .logged => 0x05
  | .applying => 0x06

/-- R66: the REGION byte of SLOT. -/
def SlotRegion.code : SlotRegion → Byte
  | .noRegion => 0xFF
  | .entry i => BitVec.ofNat 8 i.val
  | .profile => 0x08

/-- R173 to R175: the kind numbers. -/
def EventKind.number : EventKind → Nat
  | .recovered => 0
  | .formatted => 1
  | .noAnchor => 2
  | .profileLoaded => 3
  | .profileBad => 4
  | .profileStored => 5
  | .stageFull => 6
  | .groupLimit => 7
  | .writeDenied => 8
  | .hiddenAccess => 9
  | .slotsDiscarded => 10
  | .journalFault => 11
  | .applyFault => 12
  | .faulted => 13
  | .pfailRestart => 14
  | .overflow => 15

/-- R172: the region byte of an event record. -/
def regionByte : Option (Fin 8) → Byte
  | none => 0xFF
  | some i => BitVec.ofNat 8 i.val

/-- R66, R172: a home or event address in three bytes, FFFFFFh for none. -/
def addressBytes : Option Addr → List Byte
  | none => [0xFF, 0xFF, 0xFF]
  | some a => bytes24 a.toNat

/-- 12.6: the eight bytes of an event record. -/
def EventRecord.bytes (r : EventRecord) : List Byte :=
  [BitVec.ofNat 8 r.report.kind.number, r.report.detail, regionByte r.report.region]
    ++ addressBytes r.report.address ++ [r.report.count, r.serial]

/-- The status codes (R193). -/
inductive Status where
  | ok | empty | notNow | busyLive | noSlot | overlap | triggerInUse | badArg | badCommand
  deriving DecidableEq, Repr

/-- R193. -/
def Status.code : Status → Byte
  | .ok => 0x00
  | .empty => 0x01
  | .notNow => 0x10
  | .busyLive => 0x11
  | .noSlot => 0x12
  | .overlap => 0x13
  | .triggerInUse => 0x14
  | .badArg => 0x20
  | .badCommand => 0x21

/-- A parameter byte as an index 0 to 7, none above 7. -/
def index8 (b : Byte) : Option (Fin 8) :=
  if h : b.toNat < 8 then some ⟨b.toNat, h⟩ else none

/-- The indices 0 to 7 in order. -/
def indices8 : List (Fin 8) :=
  [0, 1, 2, 3, 4, 5, 6, 7]

end Sys2Proof.Machine
end

