-- ==== Sys2Proof/Machine/Flags.lean ====
section
/-! DEFINITION. Every flag and level the part computes: ALERT#, HRSTO#, HRDY, SDO, the flag bytes of STATUS and REPORT,
and whether a command is accepted in an operating state (R194). -/

namespace Sys2Proof.Machine

/-! ## ALERT# (R181, R182) -/

/-- R181: whether a kind is enabled by the mask; bit 15 is treated as enabled whatever it holds. -/
def kindEnabled (mask : Word16) (k : EventKind) : Bool :=
  k == .overflow || mask.getLsbD k.number

/-- R182: the queue holds at least one record whose kind is enabled. -/
def alertLevel (mask : Word16) (queue : List EventRecord) : Bool :=
  queue.any fun r => kindEnabled mask r.report.kind

/-! ## HRSTO# (R135) -/

/-- R135: the operating states in which HRSTO# is asserted. -/
def OpState.holdsHost : OpState → Bool
  | .starting | .recovering | .initload | .frozen => true
  | .running | .reloading | .locked | .faulted => false

/-! ## HRDY (R21, R24) -/

/-- R21, R24: HRDY is low from the taking of a cycle to its answer; a cycle that SRST# abandoned leaves it high. -/
def HostPort.ready (h : HostPort) : Bool :=
  match h.phase with
  | .idle | .answered => true
  | .waiting | .access | .holding => h.fate == .abandoned

/-! ## SDO (R186, R187) -/

/-- The level of SDO. -/
inductive SdoLevel where
  | highImpedance
  | driven (high : Bool)
  deriving DecidableEq, Repr

/-- R187: the place in the status byte and the response bytes of the byte time in progress. -/
def MgmtPort.resultIndex (m : MgmtPort) : Nat :=
  m.bytePos - (m.params.length + 1)

/-- R187: the byte shifted out in the byte time in progress. -/
def MgmtPort.byteOut (m : MgmtPort) : Byte :=
  match m.phase with
  | .result => (m.status :: m.response).getD m.resultIndex 0xFF
  | .idle | .command | .parameters | .trailer | .blocked => 0xFF

/-- R186, R187: SDO carries the byte's bits, most significant first, during a transaction. -/
def MgmtPort.sdo (m : MgmtPort) : SdoLevel :=
  match m.phase with
  | .idle | .blocked => .highImpedance
  | .command | .parameters | .result | .trailer => .driven (m.byteOut.getMsbD m.bitPos)

/-! ## Flag bytes (12.7) -/

/-- A Bool as bit `k` of a byte. -/
def bitAt (k : Nat) (b : Bool) : Byte :=
  if b then BitVec.ofNat 8 (2 ^ k) else 0

/-- 12.7: byte 13 of STATUS. -/
def statusFlags (unread alert : Bool) (queueLength : Nat) : Byte :=
  bitAt 0 unread ||| bitAt 1 alert ||| BitVec.ofNat 8 (queueLength * 16)

/-- 12.7: byte 2 of REPORT. -/
def RecoveryReport.flags (r : RecoveryReport) : Byte :=
  bitAt 0 r.lag ||| bitAt 1 r.damaged ||| bitAt 2 r.oneAnchor ||| bitAt 7 r.unread

/-- 12.7: byte 6 of REPORT. -/
def strapsByte (t : Straps) : Byte :=
  BitVec.ofNat 8 (t.msz.toNat + t.jsz.toNat * 4) ||| bitAt 4 t.afmt ||| bitAt 5 t.defro

/-- 12.7: the eight bytes of REPORT. -/
def RecoveryReport.bytes (r : RecoveryReport) : List Byte :=
  [r.outcome.code, BitVec.ofNat 8 r.replayCount, r.flags] ++ bytes16 r.generation
    ++ [r.cause.code, strapsByte r.straps, BitVec.ofNat 8 r.firstFaults]

end Sys2Proof.Machine

namespace Sys2Proof

open Sys2Proof.Machine

/-! ## Acceptance of a command (R194) -/

/-- R194: the command goes on to its parameter and own checks in this operating state; `formatting` says that a format
is in progress (R102). FROZEN accepts nothing: the port does not answer there. -/
def MgmtCommand.accepted (c : MgmtCommand) (o : OpState) (formatting : Bool) : Bool :=
  match c with
  | .status | .report | .peek | .take => o != .frozen
  | .getRegion | .slot | .getMask =>
    o == .running || o == .reloading || o == .locked || o == .faulted
  | .putRegion | .setDefault | .mask | .discardHeld => o == .running || o == .faulted
  | .storeProfile | .loadProfile => o == .running
  | .format => o == .locked && !formatting
  | .resume => o == .faulted

end Sys2Proof
end

