-- ==== Sys2Proof/Machine/Ops.lean ====
section
/-! DEFINITION. The shared operations over memory, events, the operating state, the slots and the journal's held span. The
block has no exception entry: raising a line or logging an event is an effect on State. -/

namespace Sys2Proof.Machine

/-! ## Memory (R36) -/

/-- What an address reads that the memory does not list (log 3). -/
def Memory.unlisted : Byte :=
  Config.unlistedByte

/-- R36: the byte that memory holds at an address. -/
def Memory.read : Memory → Nat → Byte
  | [], _ => Memory.unlisted
  | (a, b) :: m, k => if a = k then b else Memory.read m k

/-- R36: memory with the byte stored at the address, in canonical form. -/
def Memory.write : Memory → Nat → Byte → Memory
  | [], k, v => if v = Memory.unlisted then [] else [(k, v)]
  | (a, b) :: m, k, v =>
    if k < a then
      if v = Memory.unlisted then (a, b) :: m else (k, v) :: (a, b) :: m
    else if k = a then
      if v = Memory.unlisted then m else (k, v) :: m
    else
      (a, b) :: Memory.write m k v

/-- The canonical form: addresses strictly rising, and no entry equal to what an unlisted address reads. -/
def Memory.wf : Memory → Bool
  | [] => true
  | (a, b) :: m => (b != Memory.unlisted) && (m.all fun c => decide (a < c.1)) && Memory.wf m

/-! ## Events (R177, R178, R182) -/

/-- R178: a record joins the tail with the serial counter's value. -/
def EventBlock.push (e : EventBlock) (r : EventReport) : EventBlock :=
  { e with queue := e.queue ++ [{ report := r, serial := e.serial }], serial := e.serial + 1 }

/-- R175, R177: an OVERFLOW entry with this count. -/
def EventReport.overflow (count : Byte) : EventReport where
  kind := .overflow
  detail := 0
  region := none
  address := none
  count := count

/-- R177: the queue holds an OVERFLOW entry. -/
def EventBlock.hasOverflow (e : EventBlock) : Bool :=
  e.queue.any fun r => r.report.kind == .overflow

/-- R177: one more event dropped; the count stays at 255. -/
def EventRecord.bump (r : EventRecord) : EventRecord :=
  if r.report.kind = .overflow then
    { r with report := { r.report with
        count := if r.report.count = 0xFF then 0xFF else r.report.count + 1 } }
  else
    r

/-- R177: an event arrives. -/
def EventBlock.arrive (e : EventBlock) (r : EventReport) : EventBlock :=
  if e.queue.length < 15 then
    e.push r
  else if e.queue.length = 15 then
    if e.hasOverflow then e.push r else e.push (EventReport.overflow 1)
  else
    { e with queue := e.queue.map EventRecord.bump }

/-- R180: the head record is removed. When it is an OVERFLOW whose count grew past `counted`, the growth is appended as
a new OVERFLOW entry. -/
def EventBlock.removeHead (e : EventBlock) (counted : Byte) : EventBlock :=
  match e.queue with
  | [] => e
  | r :: rest =>
    if r.report.kind = .overflow ∧ r.report.count ≠ counted then
      EventBlock.push { e with queue := rest } (EventReport.overflow (r.report.count - counted))
    else
      { e with queue := rest }

/-- R182: ALERT# is evaluated against a mask. -/
def EventBlock.evaluate (e : EventBlock) (mask : Word16) : EventBlock :=
  { e with alert := alertLevel mask e.queue }

/-- R172, R177, R182: a block reports an event; ALERT# is re-evaluated. -/
def State.logEvent (s : State) (r : EventReport) : State :=
  s.setEvents ((s.events.arrive r).evaluate s.table.mask)

/-! ## The operating state (R134, R135) -/

/-- The controller enters an operating state and drives HRSTO# for it (R135). -/
def State.enterState (s : State) (o : OpState) : State :=
  s.setCtrl { s.ctrl with opState := o, hrsto := o.holdsHost }

/-! ## Geometry of the state -/

/-- H (R137). -/
def State.base (s : State) : Nat :=
  hiddenBase s.ctrl.straps

/-- J (R137). -/
def State.journalLength (s : State) : Nat :=
  journalSize s.ctrl.straps

/-- The memory address of a journal offset (R83). -/
def State.journalAddr (s : State) (offset : Nat) : Nat :=
  journalBase s.ctrl.straps + offset

/-! ## The region table -/

/-- R8: an address lies in the range of a valid entry. -/
def RegionEntry.covers (e : RegionEntry) (a : Nat) : Bool :=
  e.valid && decide (e.base.toNat ≤ a) && decide (a ≤ e.limit.toNat)

/-- R7: some valid entry at an index other than `i` names `i` in FOLLOWS. -/
def RegionTable.followed (entries : Vector RegionEntry 8) (i : Fin 8) : Bool :=
  indices8.any fun k => k != i && entries[k].valid && entries[k].follows == some i

/-- R7: `i` is a trigger: at least one valid entry names it. -/
def RegionTable.isTrigger (entries : Vector RegionEntry 8) (i : Fin 8) : Bool :=
  indices8.any fun k => entries[k].valid && entries[k].follows == some i

/-! ## Slots (R41 to R45) -/

/-- The slot with this number. -/
def State.slot (s : State) (i : Fin 8) : Slot :=
  s.stage.slots[i]

/-- The staging store with one slot replaced. -/
def Staging.setSlot (g : Staging) (i : Fin 8) (x : Slot) : Staging :=
  { g with slots := g.slots.set i x }

/-- R41: the slot's byte at an offset, whatever WRITTEN says. -/
def Slot.byte (x : Slot) (offset : Nat) : Byte :=
  (x.image[offset]?).getD 0

/-- R47, R109: the byte is stored in IMAGE at the offset and its WRITTEN bit set. -/
def Slot.store (x : Slot) (offset : Nat) (b : Byte) : Slot :=
  { x with
    image := x.image.setIfInBounds offset b
    written := x.written ||| BitVec.twoPow 128 offset }

/-- R41: the bytes in use, offset 0 to LENGTH - 1. -/
def Slot.data (x : Slot) : List Byte :=
  x.image.toList.take x.length

/-- R42: a slot in any state but FREE is live. -/
def Slot.live (x : Slot) : Bool :=
  x.state != .free

/-- R66: the number of set WRITTEN bits. -/
def Slot.writtenCount (x : Slot) : Nat :=
  (List.range 128).countP fun k => x.written.getLsbD k

/-- R46: the slot belongs to the record with this region and home. -/
def Slot.ofRecord (x : Slot) (region : Fin 8) (home : Addr) : Bool :=
  x.live && x.region == .entry region && x.home == some home

/-- R195: the number of slots in a state. -/
def Staging.count (g : Staging) (st : SlotState) : Nat :=
  indices8.countP fun i => g.slots[i].state == st

/-- The slots in a state, lowest number first. -/
def Staging.withState (g : Staging) (st : SlotState) : List (Fin 8) :=
  indices8.filter fun i => g.slots[i].state == st

/-- R43: the lowest-numbered FREE slot. -/
def Staging.lowestFree (g : Staging) : Option (Fin 8) :=
  indices8.find? fun i => g.slots[i].state == .free

/-- R166: every slot is FREE. -/
def Staging.allFree (g : Staging) : Bool :=
  indices8.all fun i => g.slots[i].state == .free

/-- R45: the slot becomes FREE with its fields cleared and leaves its version chain. -/
def Staging.freeSlot (g : Staging) (i : Fin 8) : Staging :=
  { (g.setSlot i (Slot.cleared g.slots[i].image)) with chain := g.chain.filter (· != i) }

/-- R45, for each of several slots. -/
def Staging.freeSlots (g : Staging) (is : List (Fin 8)) : Staging :=
  is.foldl Staging.freeSlot g

/-- Several slots go to a state. -/
def Staging.setStates (g : Staging) (is : List (Fin 8)) (st : SlotState) : Staging :=
  is.foldl (fun g i => g.setSlot i { g.slots[i] with state := st }) g

/-! ## The version chain (R57, R58, R109) -/

/-- R58: the byte at an offset from the first slot of a list whose WRITTEN bit for it is set. -/
def Staging.byteFrom (g : Staging) (is : List (Fin 8)) (offset : Nat) : Option Byte :=
  (is.find? fun i => g.slots[i].written.getLsbD offset).map fun i => g.slots[i].byte offset

/-- R57: the live slots of a record, newest first. -/
def Staging.versions (g : Staging) (region : Fin 8) (home : Addr) : List (Fin 8) :=
  (g.chain.filter fun i => g.slots[i].ofRecord region home).reverse

/-- R58: the staged byte a host read finds. -/
def Staging.stagedByte (g : Staging) (region : Fin 8) (home : Addr) (offset : Nat) : Option Byte :=
  g.byteFrom (g.versions region home) offset

/-- R109: the live slots of the record of slot `i` that are older than `i`, newest first. -/
def Staging.olderVersions (g : Staging) (i : Fin 8) : List (Fin 8) :=
  ((g.chain.takeWhile (· != i)).filter fun k =>
    g.slots[k].live && g.slots[k].region == g.slots[i].region
      && g.slots[k].home == g.slots[i].home).reverse

/-- R46: the FILLING slot of a record. -/
def Staging.fillingSlot (g : Staging) (region : Fin 8) (home : Addr) : Option (Fin 8) :=
  indices8.find? fun i => g.slots[i].state == .filling && g.slots[i].ofRecord region home

/-! ## The held span (R92 to R97) -/

/-- R97: the forward distance from `a` to `b` in a journal of `j` bytes, with `j` counted as 0. -/
def forwardDistance (j a b : Nat) : Nat :=
  let a' := if a = j then 0 else a
  let b' := if b = j then 0 else b
  if a' ≤ b' then b' - a' else j - a' + b'

/-- R97: the forward distance from the old head to the new one at an anchor write. It covers at least the entry itself, so
where both heads are one offset, because a recovered residue and the entry fill the journal, it is the whole of J, and the
held count after the last live entry is 0 (R97) and no Writer waits on (R96). DEDUCED (log 31), unsafe. -/
def headAdvance (j a b : Nat) : Nat :=
  if forwardDistance j a b = 0 then j else forwardDistance j a b

/-- R92: the journal byte at an offset lies in the held span. -/
def Journal.holds (g : Journal) (j offset : Nat) : Bool :=
  decide (forwardDistance j g.head offset < g.held)

/-- R94: no byte of [a, a + n) is held. -/
def Journal.rangeFree (g : Journal) (j a n : Nat) : Bool :=
  (List.range n).all fun k => !g.holds j (a + k)

/-- R92: the number of free journal bytes. -/
def Journal.freeBytes (g : Journal) (j : Nat) : Nat :=
  j - g.held

/-- R100, R101: the anchor copy to be written next: the one not in use. -/
def Journal.nextCopy (g : Journal) : AnchorCopy :=
  match g.inUse with
  | some c => c.other
  | none => .a

/-! ## Memory steps: writes and compared reads -/

/-- One access of a verified sequence: a write of `byte`, or a readback compared with `byte` (R113, R119). -/
structure MemStep where
  addr : Nat
  byte : Byte
  verify : Bool
  deriving DecidableEq, Repr

/-- The access a step makes. -/
def MemStep.access (m : MemStep) (owner : AccessOwner) : Access where
  owner := owner
  addr := m.addr
  op := if m.verify then .read else .write m.byte

/-- Writes of consecutive bytes from an address upward. -/
def writeSteps (addr : Nat) (bs : List Byte) : List MemStep :=
  (bs.zipIdx addr).map fun x => { addr := x.2, byte := x.1, verify := false }

/-- Compared reads of consecutive bytes from an address upward. -/
def verifySteps (addr : Nat) (bs : List Byte) : List MemStep :=
  (bs.zipIdx addr).map fun x => { addr := x.2, byte := x.1, verify := true }

/-- R119, R145: the bytes are written from the address upward, then read back in the same order. -/
def copySteps (addr : Nat) (bs : List Byte) : List MemStep :=
  writeSteps addr bs ++ verifySteps addr bs

/-- R114, R120: a mark is written and read back. -/
def markSteps (addr : Nat) (mark : Byte) : List MemStep :=
  copySteps addr [mark]

/-- R121: the five steps of a verified anchor write. -/
def anchorSteps (addr : Nat) (generation : Word16) (head : Nat) (next : Word16) : List MemStep :=
  writeSteps addr (0x00 :: anchorBody generation head next)
    ++ verifySteps (addr + 1) (anchorBody generation head next)
    ++ markSteps addr markAnchor

/-- What a completed access means for the sequence it belongs to. -/
inductive StepResult where
  /-- The compare failed at this address. -/
  | unequal (addr : Nat)
  /-- There is a further step. -/
  | more
  /-- The sequence is complete, every byte equal. -/
  | done
  deriving DecidableEq, Repr

/-- The result of step `idx` of a sequence when its access gave the byte `b`. -/
def stepResult (prog : List MemStep) (idx : Nat) (b : Byte) : StepResult :=
  match prog[idx]? with
  | none => .more
  | some m =>
    if m.verify && b != m.byte then .unequal m.addr
    else if idx + 1 < prog.length then .more
    else .done

/-! ## An access completes (R36) -/

/-- R36: the access in flight completes with the memory's answer: the port is free, a write has left its byte, and the
requester's byte is given beside the state. `none` when the memory has no such address (log 10). -/
def State.completeAccess (s : State) (a : Access) (answer : MemAnswer) : Option (State × Byte) :=
  if a.addr < memorySize s.ctrl.straps then
    let s' := s.setPort { s.port with inFlight := none }
    match a.op, answer with
    | .read, .ok => some (s', s.mem.read a.addr)
    | .read, .bad b => some (s', b)
    | .write b, .ok => some (s'.setMem (s.mem.write a.addr b), b)
    | .write b, .bad c => some (s'.setMem (s.mem.write a.addr c), b)
  else
    none

end Sys2Proof.Machine
end

