-- ==== Sys2Proof/Machine/HostPort.lean ====
section
/-! DEFINITION. The decoder (R5 to R9), answers and holds of the host port (R20 to R35), and what a RECORD cycle does in
the staging store (R46 to R58, R67 to R73). -/

namespace Sys2Proof.Machine

/-! ## Address lookup (R5 to R8) -/

/-- R8: the valid entry that holds an address. -/
def RegionTable.find (entries : Vector RegionEntry 8) (a : Nat) : Option (Fin 8) :=
  indices8.find? fun i => entries[i].covers a

/-- R5: the offset of an address within its record. -/
def RegionEntry.offset (e : RegionEntry) (a : Nat) : Nat :=
  (a - e.base.toNat) % e.rsize

/-- R5, R6: the record reference of an address inside RECORD entry `i`. -/
def RegionTable.recordRef (entries : Vector RegionEntry 8) (i : Fin 8) (a : Nat) : RecordRef :=
  let e := entries[i]
  { region := i
    home := toAddr (a - e.offset a)
    offset := e.offset a
    length := e.rsize
    isCommit := e.offset a == e.commit
    follows := e.follows
    isTrigger := RegionTable.isTrigger entries i }

/-- The class an entry gives its addresses. -/
def RegionClass.addrClass : RegionClass → AddrClass
  | .openClass => .openClass
  | .record => .record
  | .readonly => .readonly

/-- The class the default class gives. -/
def DefaultClass.addrClass : DefaultClass → AddrClass
  | .openClass => .openClass
  | .readonly => .readonly

/-- R8: the first case that holds. -/
def State.lookup (s : State) (a : Nat) : Lookup :=
  if memorySize s.ctrl.straps ≤ a then
    { cls := .beyond, region := none, ref := none }
  else if s.base ≤ a then
    { cls := .hidden, region := none, ref := none }
  else
    match RegionTable.find s.table.entries a with
    | some i =>
      { cls := s.table.entries[i].cls.addrClass
        region := some i
        ref := if s.table.entries[i].cls = .record then
            some (RegionTable.recordRef s.table.entries i a) else none }
    | none => { cls := s.table.defaultClass.addrClass, region := none, ref := none }

/-! ## Answers, requests and holds (R21 to R23) -/

/-- R21: a read is answered with a byte. -/
def State.answerRead (s : State) (b : Byte) : State :=
  s.setHost { s.host with phase := .answered, hold := none, hd := some b }

/-- R21: a write is answered, HD undriven. -/
def State.answerWrite (s : State) : State :=
  s.setHost { s.host with phase := .answered, hold := none, hd := none }

/-- R25, R37: the host path posts a request for the captured address. -/
def State.postRequest (s : State) : State :=
  s.setHost { s.host with phase := .waiting, hold := none }

/-- R23: the cycle is held. -/
def State.holdCycle (s : State) (k : HoldKind) : State :=
  s.setHost { s.host with phase := .holding, hold := some k }

/-- R34: WRITE_DENIED with this detail code and region, for the captured address. -/
def State.writeDenied (s : State) (detail : Byte) (region : Option (Fin 8)) : State :=
  s.logEvent
    { kind := .writeDenied, detail := detail, region := region, address := some s.host.addr, count := 0 }

/-- R174: the WRITE_DENIED reasons. -/
def deniedReadonly : Byte := 0x00
/-- R174. -/
def deniedLocked : Byte := 0x01
/-- R174. -/
def deniedFaulted : Byte := 0x02

/-- R174: the HIDDEN_ACCESS details. -/
def hiddenDetail (cls : AddrClass) (kind : CycleKind) : Byte :=
  match cls, kind with
  | .beyond, .read => 0x02
  | .beyond, .write => 0x03
  | _, .read => 0x00
  | _, .write => 0x01

/-- R27, R35: a hidden or beyond cycle logs HIDDEN_ACCESS and is answered at once, a read with FFh. -/
def State.serveHidden (s : State) (cls : AddrClass) : State :=
  let s' := s.logEvent
    { kind := .hiddenAccess, detail := hiddenDetail cls s.host.kind, region := none,
      address := some s.host.addr, count := 0 }
  match s.host.kind with
  | .read => s'.answerRead 0xFF
  | .write => s'.answerWrite

/-! ## RECORD cycles in the staging store -/

/-- R43, R44: a host write allocates slot `i` for the record of a reference. -/
def Staging.allocate (g : Staging) (i : Fin 8) (r : RecordRef) : Staging :=
  { (g.setSlot i
      { state := .filling
        region := .entry r.region
        home := some r.home
        length := r.length
        image := g.slots[i].image
        written := 0
        openNumber := g.openCounter
        waitsOn := none
        group := none }) with
    openCounter := g.openCounter + 1
    chain := g.chain ++ [i] }

/-- R55, R71: the slots become one group at the tail of the commit queue, each QUEUED with the tag as its GROUP and
WAITS-ON none. -/
def Staging.enqueue (g : Staging) (tag : Fin 8) (is : List (Fin 8)) : Staging :=
  let g' := is.foldl
    (fun g i => g.setSlot i { g.slots[i] with state := .queued, waitsOn := none, group := some tag }) g
  { g' with queue := g'.queue ++ [{ tag := tag, slots := is }] }

/-- R69: the slot becomes HELD waiting on `t`, at the tail of its held list. -/
def Staging.hold (g : Staging) (i t : Fin 8) : Staging :=
  { (g.setSlot i { g.slots[i] with state := .held, waitsOn := some t, group := none }) with
    held := g.held.set t (g.held[t] ++ [i]) }

/-- R71: the slots HELD on `t` and then slot `i` form a group; the held list of `t` becomes empty. -/
def Staging.closeTrigger (g : Staging) (i t : Fin 8) : Staging :=
  { (g.enqueue i (g.held[t] ++ [i])) with held := g.held.set t [] }

/-- R70: GROUP_LIMIT for a commit byte that leaves its slot FILLING. -/
def State.groupLimit (s : State) (region trigger : Fin 8) : State :=
  s.logEvent
    { kind := .groupLimit, detail := BitVec.ofNat 8 region.val, region := some trigger,
      address := some s.host.addr, count := 3 }

/-- R48, R67, R69, R71: slot `i` closes after its commit byte was stored, by the role in the record reference. -/
def State.closeSlot (s : State) (i : Fin 8) (r : RecordRef) : State :=
  match r.follows with
  | some t =>
    if s.stage.held[t].length < 3 then s.setStage (s.stage.hold i t)
    else s.groupLimit r.region t
  | none =>
    if r.isTrigger then s.setStage (s.stage.closeTrigger i r.region)
    else s.setStage (s.stage.enqueue i [i])

/-- R47, R48: the captured byte is stored into slot `i`, which closes if it is the commit byte; the write is answered
after that. -/
def State.storeInto (s : State) (i : Fin 8) (r : RecordRef) : State :=
  let s' := s.setStage (s.stage.setSlot i (s.stage.slots[i].store r.offset s.host.data))
  (if r.isCommit then s'.closeSlot i r else s').answerWrite

/-- R50: some slot is on its way to FREE. -/
def Staging.freeing (g : Staging) : Bool :=
  indices8.any fun i =>
    match g.slots[i].state with
    | .queued | .writing | .logged | .applying => true
    | .free | .filling | .held => false

/-- R51: a write is refused for want of a slot. -/
def State.stageFull (s : State) (r : RecordRef) : State :=
  (s.logEvent
    { kind := .stageFull, detail := 0, region := some r.region, address := some s.host.addr,
      count := BitVec.ofNat 8 (s.stage.count .filling) }).answerWrite

/-- R46, R50: a RECORD write taken in RUNNING. -/
def State.stageWrite (s : State) (r : RecordRef) : State :=
  match s.stage.fillingSlot r.region r.home with
  | some i => s.storeInto i r
  | none =>
    match s.stage.lowestFree with
    | some i => (s.setStage (s.stage.allocate i r)).storeInto i r
    | none => if s.stage.freeing then s.holdCycle .slot else s.stageFull r

/-- R58: a RECORD read is answered from the newest slot that holds the byte, or goes to home. -/
def State.stageRead (s : State) (r : RecordRef) : State :=
  match s.stage.stagedByte r.region r.home r.offset with
  | some b => s.answerRead b
  | none => s.postRequest

/-! ## Service by class and operating state (R25 to R31) -/

/-- R25 to R28: the service of a cycle in RUNNING. -/
def State.serveRunning (s : State) (k : Lookup) : State :=
  match k.cls with
  | .openClass => s.postRequest
  | .readonly =>
    match s.host.kind with
    | .read => s.postRequest
    | .write => (s.writeDenied deniedReadonly k.region).answerWrite
  | .hidden | .beyond => s.serveHidden k.cls
  | .record =>
    match k.ref, s.host.kind with
    | some r, .read => s.stageRead r
    | some r, .write => s.stageWrite r
    | none, _ => s.postRequest

/-- R30: the service in FAULTED: a RECORD write is refused, everything else is as in RUNNING. -/
def State.serveFaulted (s : State) (k : Lookup) : State :=
  match k.cls, s.host.kind with
  | .record, .write => (s.writeDenied deniedFaulted k.region).answerWrite
  | _, _ => s.serveRunning k

/-- R29: the service in LOCKED: every write is refused. -/
def State.serveLocked (s : State) (k : Lookup) : State :=
  match s.host.kind with
  | .write => (s.writeDenied deniedLocked none).answerWrite
  | .read => s.serveRunning k

/-- R23, R29 to R31, R33: the captured cycle is decoded against the table as it stands and served, or held, by the
operating state. -/
def State.serve (s : State) : State :=
  let k := s.lookup s.host.addr.toNat
  let s' := s.setHost { s.host with found := some k }
  match s.ctrl.opState with
  | .starting | .recovering | .initload => s.holdCycle .startUp
  | .reloading => s.holdCycle .reload
  | .running => s'.serveRunning k
  | .faulted => s'.serveFaulted k
  | .locked => if s.ctrl.format.isSome then s.holdCycle .reload else s'.serveLocked k
  | .frozen => s

/-! ## The ends of the holds (R23, R33, R52, R53) -/

/-- R23, R33, R164: the start-up hold ends in RUNNING, LOCKED or FAULTED and the reload hold in RUNNING; the cycle is
then decoded afresh. -/
def State.endStateHold (s : State) : State :=
  match s.host.phase, s.host.hold, s.ctrl.opState with
  | .holding, some .startUp, .running => s.serve
  | .holding, some .startUp, .locked => s.serve
  | .holding, some .startUp, .faulted => s.serve
  | .holding, some .reload, .running => s.serve
  | _, _, _ => s

/-- R33, R52: a write in the slot hold is decoded afresh; it may be held again. -/
def State.redecodeHeld (s : State) : State :=
  match s.host.phase, s.host.hold, s.ctrl.opState with
  | .holding, some .slot, .running => s.serve
  | _, _, _ => s

/-- R33, R52: the slot hold ends when a slot is FREE. -/
def State.endSlotHold (s : State) : State :=
  if s.stage.lowestFree.isSome then s.redecodeHeld else s

/-- R34, R53: a write in the slot hold is refused at the entry to FAULTED and answered. The region is that of the
decode that held it (log 28). -/
def State.refuseSlotHold (s : State) : State :=
  match s.host.phase, s.host.hold with
  | .holding, some .slot =>
    (s.writeDenied deniedFaulted (s.host.found.bind Lookup.region)).answerWrite
  | _, _ => s

/-- R21, R22, R25: the host path takes the byte of its completed access: the cycle is answered, or the port returns to
IDLE when nobody waits for the answer. -/
def State.hostTake (s : State) (b : Byte) : State :=
  match s.host.fate, s.host.kind with
  | .awaited, .read => s.answerRead b
  | .awaited, .write => s.answerWrite
  | .withdrawn, _ => s.setHost HostPort.idle
  | .abandoned, _ => s.setHost HostPort.idle

end Sys2Proof.Machine
end

