-- ==== Sys2Proof/Machine/Engines.lean ====
section
/-! DEFINITION. The Writer and the Applier (chapter 6): what each phase accesses, what a completed access does, the faults
and the entry to FAULTED; and the arbiter's rotation among the host path and the engines (R38). -/

namespace Sys2Proof.Machine

/-! ## What the Writer works on -/

/-- The slots of the group in the Writer's hands, in segment order. -/
def Writer.slots (w : Writer) : List (Fin 8) :=
  (w.group.map Group.slots).getD []

/-- R84, R112: the segments of a group's slots as written. -/
def Staging.segments (g : Staging) (is : List (Fin 8)) : List Byte :=
  is.flatMap fun i => segmentBytes ((g.slots[i].home.map BitVec.toNat).getD 0) g.slots[i].data

/-- R85, R108: L of a group. -/
def Staging.groupLength (g : Staging) (is : List (Fin 8)) : Nat :=
  entryLength (is.map fun i => g.slots[i].length)

/-- R109: the offsets of a group in merge order: slots in segment order, offsets from 0. -/
def Staging.mergeOrder (g : Staging) (is : List (Fin 8)) : List (Fin 8 × Nat) :=
  is.flatMap fun i => (List.range g.slots[i].length).map fun k => (i, k)

/-- R109: the byte for offset `k` of slot `i` from the next older version that holds it. -/
def Staging.olderByte (g : Staging) (i : Fin 8) (k : Nat) : Option Byte :=
  g.byteFrom (g.olderVersions i) k

/-- R109: every offset, in order, whose byte is held or found in an older version is done; the walk stops at the first
that needs the home byte. -/
def Staging.mergeThrough : List (Fin 8 × Nat) → Staging → Staging
  | [], g => g
  | (i, k) :: rest, g =>
    if g.slots[i].written.getLsbD k then Staging.mergeThrough rest g
    else
      match g.olderByte i k with
      | some b => Staging.mergeThrough rest (g.setSlot i (g.slots[i].store k b))
      | none => g

/-- R109: the first offset of the group whose WRITTEN bit is clear. -/
def Staging.mergeNeed (g : Staging) (is : List (Fin 8)) : Option (Fin 8 × Nat) :=
  (g.mergeOrder is).find? fun x => !g.slots[x.1].written.getLsbD x.2

/-- R112: the writes of WRITE, in order. -/
def State.writerWrites (s : State) : List MemStep :=
  let w := s.writer
  writeSteps (s.journalAddr w.pos) [markCleared]
    ++ (match w.padAt with
        | some t => writeSteps (s.journalAddr t) [markPad]
        | none => [])
    ++ writeSteps (s.journalAddr (w.pos + 1))
        (entryTail w.seq w.slots.length w.length w.check (s.stage.segments w.slots))

/-- R113: the readbacks of VERIFY, in order. -/
def State.writerVerifies (s : State) : List MemStep :=
  let w := s.writer
  verifySteps (s.journalAddr (w.pos + 1))
      (entryTail w.seq w.slots.length w.length w.check (s.stage.segments w.slots))
    ++ (match w.padAt with
        | some t => verifySteps (s.journalAddr t) [markPad]
        | none => [])

/-- R112 to R114: the sequence of the Writer's phase; the merge, PLACE and IDLE have none. -/
def State.writerProgram (s : State) : List MemStep :=
  match s.writer.phase with
  | .write => s.writerWrites
  | .verify => s.writerVerifies
  | .mark => markSteps (s.journalAddr s.writer.pos) markValid
  | .idle | .merge | .place => []

/-- The home address of a slot as a number. -/
def State.homeOf (s : State) (i : Fin 8) : Nat :=
  ((s.slot i).home.map BitVec.toNat).getD 0

/-- R37, R107, R149: the access the Writer asks for. It asks only in RUNNING (R129). -/
def State.writerWants (s : State) : Option Access :=
  if s.ctrl.opState = .running then
    match s.writer.phase with
    | .idle =>
      if 0 < s.writer.clearing then
        some { owner := .requester .writer, addr := s.journalAddr s.writer.clearAt, op := .write 0 }
      else
        none
    | .merge =>
      (s.stage.mergeNeed s.writer.slots).map fun x =>
        { owner := .requester .writer, addr := s.homeOf x.1 + x.2, op := .read }
    | .place => none
    | .write | .verify | .mark =>
      (s.writerProgram[s.writer.idx]?).map fun m => m.access (.requester .writer)
  else
    none

/-! ## What the Applier works on -/

/-- The slot of the segment in work. -/
def State.applierSlot (s : State) : Option (Fin 8) :=
  (s.journal.live.head?).bind fun e => e.group.slots[s.applier.seg]?

/-- R121, R146: the anchor write past an entry at `p` of length `l`, whose number plus 1 is `next`. -/
def State.anchorProgram (s : State) (p l : Nat) (next : Word16) : List MemStep :=
  anchorSteps (anchorBase s.ctrl.straps s.journal.nextCopy) (s.journal.generation + 1) (p + l) next

/-- R119 to R121: the sequence of the Applier's phase. -/
def State.applierProgram (s : State) : List MemStep :=
  match s.applier.phase, s.journal.live.head? with
  | .home, some _ =>
    match s.applierSlot with
    | some i => copySteps (s.homeOf i) (s.slot i).data
    | none => []
  | .retire, some e => markSteps (s.journalAddr e.pos) markRetired
  | .anchor, some e => s.anchorProgram e.pos e.length (s.journal.nextApply + 1)
  | _, _ => []

/-- R37, R117: the access the Applier asks for, in RUNNING alone. -/
def State.applierWants (s : State) : Option Access :=
  if s.ctrl.opState = .running then
    (s.applierProgram[s.applier.idx]?).map fun m => m.access (.requester .applier)
  else
    none

/-- R25, R37: the access the host path asks for while its cycle is WAITING. -/
def State.hostWants (s : State) : Option Access :=
  if s.host.phase = .waiting then
    some
      { owner := .requester .host
        addr := s.host.addr.toNat
        op := match s.host.kind with
          | .read => .read
          | .write => .write s.host.data }
  else
    none

/-! ## The arbiter (R38) -/

/-- R37: the request a requester has outstanding. -/
def State.wants (s : State) : Requester → Option Access
  | .host => s.hostWants
  | .writer => s.writerWants
  | .applier => s.applierWants

/-- R38: the requesters in the order in which they are considered after the last granted one. -/
def Requester.rotation : Requester → List Requester
  | .host => [.writer, .applier, .host]
  | .writer => [.applier, .host, .writer]
  | .applier => [.host, .writer, .applier]

/-- R38: the three requesters. -/
def Requester.all : List Requester :=
  [.host, .writer, .applier]

/-- R38: the requester the arbiter grants, and its access. -/
def State.nextGrant (s : State) (among : List Requester) : Option (Requester × Access) :=
  (s.port.lastGranted.rotation.filter fun r => among.contains r).findSome? fun r =>
    (s.wants r).map fun a => (r, a)

/-- R22, R38: a grant begins the access and sets the last granted requester; a host cycle enters ACCESS. -/
def State.grantTo (s : State) (r : Requester) (a : Access) : State :=
  let s' := s.setPort { inFlight := some a, lastGranted := r }
  match r with
  | .host => s'.setHost { s.host with phase := .access }
  | .writer | .applier => s'

/-- R38: when the port is free, the arbiter grants one request of the requesters given. -/
def State.grantAmong (s : State) (among : List Requester) : State :=
  if s.port.inFlight.isNone then
    match s.nextGrant among with
    | some (r, a) => s.grantTo r a
    | none => s
  else
    s

/-! ## Entry to FAULTED (R124) -/

/-- R124, R134: the controller enters FAULTED at the request of `engine`. With `otherFirst` (and `takeFirst`) the
arbiter's grant to another requester comes before the entry, so that an access is in flight at it (R124; log 8). -/
def State.enterFaulted (s : State) (cause : FaultCause) (engine : Requester) (order : Order) : State :=
  let s := match order with
    | .heldFirst | .heldThenTake => s
    | .otherFirst | .takeFirst => s.grantAmong (Requester.all.filter (· != engine))
  let s := s.enterState .faulted
  let s := s.setCtrl { s.ctrl with cause := cause }
  let s := s.logEvent
    { kind := .faulted, detail := cause.code, region := none, address := none, count := 0 }
  s.refuseSlotHold

/-- R116, R123: the details FIRST and SECOND. -/
def detailFirst : Byte := 0x01
/-- R116, R123. -/
def detailSecond : Byte := 0x02

/-! ## A Writer access completes (R109 to R116, R149) -/

/-- R109: the merge goes on; when every offset is done the Writer goes to PLACE. -/
def State.mergeOn (s : State) : State :=
  let g := s.stage.mergeThrough (s.stage.mergeOrder s.writer.slots)
  let s := s.setStage g
  if (g.mergeNeed s.writer.slots).isNone then
    s.setWriter { s.writer with phase := .place, idx := 0 }
  else
    s

/-- R109: the home byte read is stored into the slot in work and the merge goes on, in FAULTED too: the offsets that
need no access are filled from older versions and PLACE may be reached. DESIGN CHOICE (log 30), unsafe: R40, R60 and R124
leave open whether a merge stopped by FAULTED fills them before RESUME. -/
def State.mergeTake (s : State) (b : Byte) : State :=
  match s.stage.mergeNeed s.writer.slots with
  | some (i, k) => (s.setStage (s.stage.setSlot i (s.stage.slots[i].store k b))).mergeOn
  | none => s

/-- R115: the VALID mark was read back equal. -/
def State.entryLogged (s : State) : State :=
  match s.writer.group with
  | some grp =>
    let s := s.setStage (s.stage.setStates grp.slots .logged)
    let s := s.setJournal
      { s.journal with
        live := s.journal.live
          ++ [{ pos := s.writer.pos, length := s.writer.length, seq := s.writer.seq, group := grp }]
        nextWrite := s.journal.nextWrite + 1 }
    s.setWriter Writer.idle
  | none => s

/-- R116: JOURNAL_FAULT at an address. -/
def State.logJournalFault (s : State) (detail : Byte) (addr : Nat) : State :=
  s.logEvent
    { kind := .journalFault, detail := detail, region := none, address := some (toAddr addr),
      count := lowByte s.writer.seq }

/-- R116, R124: a compare of the Writer failed. While the part is FAULTED the failure has no effect (R124). -/
def State.journalFault (s : State) (addr : Nat) (order : Order) : State :=
  if s.ctrl.opState = .running then
    if s.writer.retry = 0 then
      let s := s.logJournalFault detailFirst addr
      s.setWriter { s.writer with retry := 1, phase := .write, idx := 0 }
    else
      (s.logJournalFault detailSecond addr).enterFaulted .journal .writer order
  else
    s

/-- R149: one clearing write has completed. -/
def State.clearingDone (s : State) : State :=
  s.setWriter
    { s.writer with
      clearing := s.writer.clearing - 1
      clearAt := (s.writer.clearAt + 1) % s.journalLength }

/-- R112 to R115: the next step of the Writer's sequence, or the phase that follows it. -/
def State.writerAdvance (s : State) (r : StepResult) (order : Order) : State :=
  match r, s.writer.phase with
  | .unequal addr, _ => s.journalFault addr order
  | .more, _ => s.setWriter { s.writer with idx := s.writer.idx + 1 }
  | .done, .write => s.setWriter { s.writer with phase := .verify, idx := 0 }
  | .done, .verify => s.setWriter { s.writer with phase := .mark, idx := 0 }
  | .done, .mark => s.entryLogged
  | .done, _ => s

/-- R127: where the Writer goes on from the phase in which it stopped. -/
def Writer.resumed (w : Writer) : Writer :=
  match w.phase with
  | .idle | .merge | .place => { w with resuming := false }
  | .write | .verify | .mark => { w with phase := .write, idx := 0, resuming := false }

/-- R124, R127: the Writer at a RESUME that finds its access of the entry to FAULTED still in flight: the steps of WRITE,
VERIFY and MARK wait for that access; the merge goes on with it (log 32). -/
def Writer.resumedLater (w : Writer) : Writer :=
  match w.phase with
  | .idle | .merge | .place => { w with resuming := false }
  | .write | .verify | .mark => { w with resuming := true }

/-- R124, R127: the access of the entry to FAULTED completes after RESUME: a step it completes has its effects, an
unequal byte has none, and the Writer then goes on by R127 (log 32). -/
def State.writerResume (s : State) (r : StepResult) (order : Order) : State :=
  let t := match r with
    | .done => s.writerAdvance .done order
    | .more => s
    | .unequal _ => s
  t.setWriter t.writer.resumed

/-- R36: the Writer takes the result of its access. -/
def State.writerTake (s : State) (b : Byte) (order : Order) : State :=
  match s.writer.phase with
  | .idle => if 0 < s.writer.clearing then s.clearingDone else s
  | .merge => s.mergeTake b
  | .place => s
  | .write | .verify | .mark =>
    let r := stepResult s.writerProgram s.writer.idx b
    if s.writer.resuming then s.writerResume r order else s.writerAdvance r order

/-! ## Placement (R94, R95, R111) -/

/-- R94, R95: where an entry of length `l` goes: its position and, for a wrap with a tail below J, the PAD offset. R94's
conditions alone decide. Where several lagged entries (R142) leave a residue over the first 536 bytes and no entry is live,
there can so be no room, although R96 and R148 say that such a residue does not arise and that no first placement waits.
DESIGN CHOICE (log 33), unsafe. -/
def Journal.place (g : Journal) (j l : Nat) : Option (Nat × Option Nat) :=
  if g.tail + l ≤ j then
    if g.rangeFree j g.tail l then some (g.tail, none) else none
  else if g.rangeFree j 0 l then
    some (0, if g.tail < j then some g.tail else none)
  else
    none

/-- R94, R95: the tail and the held count after a placement. -/
def Journal.placed (g : Journal) (j l pos : Nat) (pad : Option Nat) : Journal :=
  { g with
    tail := pos + l
    held := g.held + (match pad with | some t => j - t | none => 0) + l }

/-- R111: a placement attempt. -/
def State.placeEntry (s : State) : State :=
  match s.journal.place s.journalLength s.writer.length with
  | some (pos, pad) =>
    let segs := s.stage.segments s.writer.slots
    let seq := s.journal.nextWrite
    let s := s.setJournal (s.journal.placed s.journalLength s.writer.length pos pad)
    s.setWriter
      { s.writer with
        phase := .write
        pos := pos
        padAt := pad
        seq := seq
        check := entryCheck seq s.writer.slots.length s.writer.length segs
        idx := 0 }
  | none => s

/-! ## An Applier access completes (R119 to R123) -/

/-- R122: PROFILE_STORED for a slot that held a profile store: its image carries the store count in bytes 1 and 2. -/
def State.logProfileStored (s : State) (i : Fin 8) : State :=
  if (s.slot i).region = .profile then
    s.logEvent
      { kind := .profileStored, detail := 0, region := none,
        address := some (toAddr (profileBase s.ctrl.straps)), count := (s.slot i).byte 2 }
  else
    s

/-- R97, R101: the journal description after an anchor write past the entry at the head of the list. The held count falls
by the forward distance of the head, which covers the entry and what was held before it (log 31). -/
def Journal.anchored (g : Journal) (j : Nat) (e : LiveEntry) : Journal :=
  { g with
    live := g.live.drop 1
    head := e.pos + e.length
    held := g.held - headAdvance j g.head (e.pos + e.length)
    nextApply := e.seq + 1
    inUse := some g.nextCopy
    generation := g.generation + 1 }

/-- R122: an anchor write is complete. -/
def State.anchorDone (s : State) : State :=
  match s.journal.live.head? with
  | some e =>
    let s := s.setJournal (s.journal.anchored s.journalLength e)
    let s := e.group.slots.foldl State.logProfileStored s
    let s := s.setStage (s.stage.freeSlots e.group.slots)
    s.setApplier Applier.idle
  | none => s

/-- R123: the region of an APPLY_FAULT: that of the segment's slot in HOME, none for a profile segment and elsewhere. -/
def State.applyFaultRegion (s : State) : Option (Fin 8) :=
  match s.applier.phase, s.applierSlot with
  | .home, some i =>
    match (s.slot i).region with
    | .entry k => some k
    | .noRegion | .profile => none
  | _, _ => none

/-- R123, R147: APPLY_FAULT with these fields. -/
def State.logApplyFault (s : State) (detail : Byte) (region : Option (Fin 8)) (addr : Nat) (seq : Word16) : State :=
  s.logEvent
    { kind := .applyFault, detail := detail, region := region, address := some (toAddr addr),
      count := lowByte seq }

/-- The sequence number of the Applier's entry. -/
def State.applierSeq (s : State) : Word16 :=
  ((s.journal.live.head?).map LiveEntry.seq).getD 0

/-- R123, R124: a compare of the Applier failed: its step is repeated, or the part enters FAULTED. -/
def State.applyFault (s : State) (addr : Nat) (order : Order) : State :=
  if s.ctrl.opState = .running then
    if s.applier.retry = 0 then
      let s := s.logApplyFault detailFirst s.applyFaultRegion addr s.applierSeq
      s.setApplier { s.applier with retry := 1, idx := 0 }
    else
      (s.logApplyFault detailSecond s.applyFaultRegion addr s.applierSeq).enterFaulted
        .apply .applier order
  else
    s

/-- The number of segments of the Applier's entry. -/
def State.applierSegments (s : State) : Nat :=
  ((s.journal.live.head?).map fun e => e.group.slots.length).getD 0

/-- R119 to R122: the next step of the Applier's sequence, or what follows it. -/
def State.applierAdvance (s : State) (r : StepResult) (order : Order) : State :=
  match r, s.applier.phase with
  | .unequal addr, _ => s.applyFault addr order
  | .more, _ => s.setApplier { s.applier with idx := s.applier.idx + 1 }
  | .done, .home =>
    if s.applier.seg + 1 < s.applierSegments then
      s.setApplier { s.applier with seg := s.applier.seg + 1, idx := 0 }
    else
      s.setApplier { s.applier with phase := .retire, idx := 0 }
  | .done, .retire => s.setApplier { s.applier with phase := .anchor, idx := 0 }
  | .done, .anchor => s.anchorDone
  | .done, .idle => s

/-- R128: where the Applier goes on from the phase in which it stopped. -/
def Applier.resumed (a : Applier) : Applier :=
  match a.phase with
  | .idle => { a with resuming := false }
  | .home => { a with seg := 0, idx := 0, resuming := false }
  | .retire | .anchor => { a with idx := 0, resuming := false }

/-- R124, R128: the Applier at a RESUME that finds its access of the entry to FAULTED still in flight (log 32). -/
def Applier.resumedLater (a : Applier) : Applier :=
  match a.phase with
  | .idle => { a with resuming := false }
  | .home | .retire | .anchor => { a with resuming := true }

/-- R124, R128: the access of the entry to FAULTED completes after RESUME: a step it completes has its effects, an
unequal byte has none, and the Applier then goes on by R128 (log 32). -/
def State.applierResume (s : State) (r : StepResult) (order : Order) : State :=
  let t := match r with
    | .done => s.applierAdvance .done order
    | .more => s
    | .unequal _ => s
  t.setApplier t.applier.resumed

/-- R36: the Applier takes the result of its access. -/
def State.applierTake (s : State) (b : Byte) (order : Order) : State :=
  let r := stepResult s.applierProgram s.applier.idx b
  if s.applier.resuming then s.applierResume r order else s.applierAdvance r order

end Sys2Proof.Machine
end

