-- ==== Sys2Proof/Machine/Profile.lean ====
section
/-! DEFINITION. The checks of PUT REGION (R10 to R15), the profile loader (R19, R161 to R164), and the image that STORE
PROFILE builds (R167). -/

namespace Sys2Proof.Machine

/-! ## The checks of a region entry (R10 to R15) -/

/-- Check 1 (R11): the entry describes a range of ordinary memory. True when it passes. -/
def RawEntry.check1 (e : RawEntry) (base : Nat) : Bool :=
  (regionClassOfCode e.cls).isSome && decide (e.base < 524288) && decide (e.limit < 524288)
    && decide (e.base ≤ e.limit) && decide (e.limit < base)

/-- Check 2 (R11): the record geometry. -/
def RawEntry.check2 (e : RawEntry) : Bool :=
  decide (2 ≤ e.rsize) && decide (e.rsize ≤ 128)
    && decide ((e.limit - e.base + 1) % e.rsize = 0) && decide (e.commit < e.rsize)

/-- Check 3 (R12) for an entry written at index `i`. -/
def RawEntry.check3 (e : RawEntry) (entries : Vector RegionEntry 8) (i : Fin 8) : Bool :=
  if e.follows.toNat = 15 then
    true
  else if h : e.follows.toNat < 8 then
    let t : Fin 8 := ⟨e.follows.toNat, h⟩
    t != i && entries[t].valid && entries[t].cls == .record && entries[t].follows.isNone
      && !RegionTable.followed entries i
  else
    false

/-- Check 4 (R13): no address in common with a valid entry at another index. -/
def RawEntry.check4 (e : RawEntry) (entries : Vector RegionEntry 8) (i : Fin 8) : Bool :=
  indices8.all fun k =>
    k == i || !entries[k].valid
      || decide (e.limit < entries[k].base.toNat) || decide (entries[k].limit.toNat < e.base)

/-- The number of the first of checks 1 to 4 that fails for a valid entry written at `i`, none when all pass. Checks 2
and 3 are made for RECORD alone (R10). -/
def RawEntry.firstFailing (e : RawEntry) (entries : Vector RegionEntry 8) (base : Nat) (i : Fin 8) :
    Option Nat :=
  let record := regionClassOfCode e.cls == some .record
  if !e.check1 base then some 1
  else if record && !e.check2 then some 2
  else if record && !e.check3 entries i then some 3
  else if !e.check4 entries i then some 4
  else none

/-- R10: the status of a failing check 1 to 4. -/
def checkStatus (n : Nat) : Status :=
  if n = 4 then .overlap else .badArg

/-- Check 5 (R14): a live slot belongs to the entry, or a HELD slot waits on it. True when it fails. -/
def Staging.busy (g : Staging) (i : Fin 8) : Bool :=
  indices8.any fun k =>
    (g.slots[k].live && g.slots[k].region == .entry i)
      || (g.slots[k].state == .held && g.slots[k].waitsOn == some i)

/-- The FOLLOWS index of a code. -/
def followsOfCode (c : BitVec 4) : Option (Fin 8) :=
  if h : c.toNat < 8 then some ⟨c.toNat, h⟩ else none

/-- R1, R16, R208: the entry in the form the table keeps. -/
def RawEntry.stored (e : RawEntry) : RegionEntry :=
  if e.valid then
    match regionClassOfCode e.cls with
    | some .record =>
      { valid := true, cls := .record, base := toAddr e.base, limit := toAddr e.limit, rsize := e.rsize,
        commit := e.commit, follows := followsOfCode e.follows }
    | some c =>
      { valid := true, cls := c, base := toAddr e.base, limit := toAddr e.limit, rsize := 0, commit := 0,
        follows := none }
    | none => RegionEntry.invalid
  else
    RegionEntry.invalid

/-- Check 6 (R15): the write would disturb a followed entry. True when it fails. -/
def RawEntry.disturbs (e : RawEntry) (entries : Vector RegionEntry 8) (i : Fin 8) : Bool :=
  let old := entries[i]
  let new := e.stored
  RegionTable.followed entries i
    && (!e.valid || new.cls != .record || new.base != old.base || new.limit != old.limit
      || new.rsize != old.rsize || new.commit != old.commit)

/-- R10: the status of a PUT REGION for index `i`, by the first check that fails. -/
def State.putStatus (s : State) (i : Fin 8) (e : RawEntry) : Status :=
  let early := if e.valid then e.firstFailing s.table.entries s.base i else none
  match early with
  | some n => checkStatus n
  | none =>
    if s.stage.busy i then .busyLive
    else if e.disturbs s.table.entries i then .triggerInUse
    else .ok

/-! ## The profile loader (R19, R161 to R164) -/

/-- R19, R161: a load begins: the part enters `o`, every entry becomes invalid and no byte is read yet. -/
def State.beginLoad (s : State) (o : OpState) : State :=
  let s := s.enterState o
  let s := s.setCtrl { s.ctrl with loader := [] }
  s.setTable { s.table with entries := RegionTable.noEntries }

/-- R162, R163: PROFILE_BAD with these fields. -/
def State.logProfileBad (s : State) (detail : Byte) (region : Option (Fin 8)) (offset : Nat) (count : Nat) :
    State :=
  s.logEvent
    { kind := .profileBad, detail := detail, region := region,
      address := some (toAddr (s.base + offset)), count := BitVec.ofNat 8 count }

/-- The live alert mask becomes `m`; ALERT# is re-evaluated (R182). -/
def State.changeMask (s : State) (m : Word16) : State :=
  let s := s.setTable { s.table with mask := m }
  s.setEvents (s.events.evaluate m)

/-- R162: the load of a bad block. -/
def State.loadBad (s : State) : State :=
  let s := s.setTable
    { s.table with
      entries := RegionTable.noEntries
      defaultClass := DefaultClass.ofDefro s.ctrl.straps.defro }
  let s := s.changeMask 0xFFFF
  let s := s.setCtrl { s.ctrl with lastCount := 0 }
  s.logProfileBad 0x00 none 32 0

/-- R163 step 4: entry `i` of the block is loaded, or rejected with PROFILE_BAD. -/
def State.loadEntry (bs : List Byte) (s : State) (i : Fin 8) : State :=
  let e := rawEntry (entryBytesAt bs (8 + 8 * i.val))
  if e.valid then
    match e.firstFailing s.table.entries s.base i with
    | none => s.setTable { s.table with entries := s.table.entries.set i e.stored }
    | some n => s.logProfileBad 0x01 (some i) (40 + 8 * i.val) n
  else
    s

/-- R163 step 2: the default class of the block, or that of DEFRO with PROFILE_BAD. -/
def State.loadDefault (s : State) (code : Byte) : State :=
  match defaultClassOfCode code with
  | some d => s.setTable { s.table with defaultClass := d }
  | none =>
    let s := s.setTable { s.table with defaultClass := DefaultClass.ofDefro s.ctrl.straps.defro }
    s.logProfileBad 0x02 none 35 0

/-- R163: the load of a good block. -/
def State.loadGood (s : State) (bs : List Byte) : State :=
  let s := s.setCtrl { s.ctrl with lastCount := wordAt bs 1 }
  let s := s.loadDefault (byteAt bs 3)
  let s := s.changeMask (wordAt bs 4)
  let s := indices8.foldl (State.loadEntry bs) s
  s.logEvent
    { kind := .profileLoaded
      detail := BitVec.ofNat 8 (indices8.countP fun i => s.table.entries[i].valid)
      region := none
      address := some (toAddr (profileBase s.ctrl.straps))
      count := lowByte (wordAt bs 1) }

/-- R162 to R164: the 72nd byte has been read: the block is judged, the part enters RUNNING, and a held cycle is decoded
afresh. -/
def State.loadDone (s : State) (bs : List Byte) : State :=
  let s := if profileGood bs then s.loadGood bs else s.loadBad
  let s := s.enterState .running
  (s.setCtrl { s.ctrl with loader := [] }).endStateHold

/-- R161: the loader takes a byte of the block. -/
def State.loaderTake (s : State) (b : Byte) : State :=
  if s.ctrl.loader.length < 71 then
    s.setCtrl { s.ctrl with loader := s.ctrl.loader ++ [b] }
  else
    s.loadDone (s.ctrl.loader ++ [b])

/-- R39, R161: the loader's next read. -/
def State.loaderWants (s : State) : Option Access :=
  if s.ctrl.loader.length < 72 then
    some { owner := .system, addr := profileBase s.ctrl.straps + s.ctrl.loader.length, op := .read }
  else
    none

/-! ## STORE PROFILE (R167) -/

/-- R167: IMAGE filled with the 72 bytes of the profile image of the live configuration with this store count; the bytes
past them stay. -/
def RegionTable.fillImage (g : RegionTable) (count : Word16) (old : Vector Byte 128) : Vector Byte 128 :=
  let bs := profileImage count g.defaultClass g.mask g.entries
  Vector.ofFn fun k : Fin 128 => if k.val < 72 then byteAt bs k.val else old[k]

/-- R44, R167: the profile store in slot `i`, QUEUED as a group of one. It joins no version chain. -/
def State.queueProfile (s : State) (i : Fin 8) : State :=
  let count := s.ctrl.lastCount + 1
  let slot : Slot :=
    { state := .queued
      region := .profile
      home := some (toAddr (profileBase s.ctrl.straps))
      length := 72
      image := s.table.fillImage count (s.slot i).image
      written := BitVec.ofNat 128 (2 ^ 72 - 1)
      openNumber := s.stage.openCounter
      waitsOn := none
      group := some i }
  let s := s.setCtrl { s.ctrl with lastCount := count }
  s.setStage
    { (s.stage.setSlot i slot) with
      openCounter := s.stage.openCounter + 1
      queue := s.stage.queue ++ [{ tag := i, slots := [i] }] }

end Sys2Proof.Machine
end

