-- ==== Sys2Proof/Machine/Recovery.lean ====
section
/-! DEFINITION. Recovery (R139 to R149), the format (R102 to R105), the report (R150, R151), and the accesses that recovery,
the loader and the format make alone (R39). -/

namespace Sys2Proof.Machine

/-! ## The recovery report (R151) -/

/-- R151, R152: recovery writes the whole report, its unread flag set. A REPORT that is being shifted out then belongs
to the report before. -/
def State.writeReport (s : State) (outcome : RecoveryOutcome) (replays : Nat) (lag damaged oneAnchor : Bool)
    (generation : Word16) (firstFaults : Nat) : State :=
  let s := s.setCtrl
    { s.ctrl with
      report :=
        { outcome := outcome, replayCount := replays, lag := lag, damaged := damaged,
          oneAnchor := oneAnchor, unread := true, generation := generation, cause := s.ctrl.startCause,
          straps := s.ctrl.straps, firstFaults := firstFaults } }
  s.setMgmt { s.mgmt with stale := true }

/-- R173: RECOVERED. -/
def State.logRecovered (s : State) (outcome : RecoveryOutcome) (address : Option Addr) (count : Nat) : State :=
  s.logEvent
    { kind := .recovered, detail := outcome.code, region := none, address := address,
      count := BitVec.ofNat 8 count }

/-- Counts that saturate at 255 (R150). -/
def saturate (n : Nat) : Nat :=
  min n 255

/-- R148, R149, R173: the address in RECOVERED of a scan that ended at `p`. -/
def State.scanAddress (s : State) (p : Nat) : Addr :=
  toAddr (s.journalAddr (if p = s.journalLength then 0 else p))

/-- Recovery changes its working state. -/
def State.setRecovery (s : State) (r : Recovery) : State :=
  s.setCtrl { s.ctrl with recovery := r }

/-! ## The start of recovery (R139) -/

/-- R139, R140: the working state at the start of RECOVERING; the anchor copies are read first. -/
def Recovery.begin : Recovery :=
  { Recovery.idle with phase := .anchors, first := true }

/-- R134, R139, R151: the part enters RECOVERING after a power-up or a PFAIL restart. -/
def State.beginRecovery (s : State) (cause : StartCause) : State :=
  let s := s.enterState .recovering
  s.setCtrl { s.ctrl with startCause := cause, recovery := Recovery.begin }

/-! ## The format (R102, R103, R105) -/

/-- R103: the writes of a format after the J zeros: the empty profile, mark cleared first and written last, then anchor
copy B, then anchor copy A, each in the order of R101. The contents go in rising order. DEDUCED (log 13). -/
def formatTail (t : Straps) : List MemStep :=
  let image := profileImage 0 (DefaultClass.ofDefro t.defro) 0xFFFF RegionTable.noEntries
  let anchor := fun (c : AnchorCopy) (g : Word16) =>
    writeSteps (anchorBase t c) (0x00 :: anchorBody g 0 0) ++ writeSteps (anchorBase t c) [markAnchor]
  writeSteps (profileBase t) (0x00 :: image.drop 1) ++ writeSteps (profileBase t) [markProfile]
    ++ anchor .b 0 ++ anchor .a 1

/-- R103: write number `k` of a format. -/
def formatStep (t : Straps) (k : Nat) : Option MemStep :=
  if k < journalSize t then
    some { addr := journalBase t + k, byte := markCleared, verify := false }
  else
    (formatTail t)[k - journalSize t]?

/-- R103: the number of writes of a format. -/
def formatLength (t : Straps) : Nat :=
  journalSize t + (formatTail t).length

/-- R98, R103: the journal description after a format: A in use with generation 1. -/
def Journal.formatted : Journal :=
  { Journal.cleared with inUse := some .a, generation := 1 }

/-- R173: FORMATTED, AUTO 00h or COMMANDED 01h. -/
def State.logFormatted (s : State) (detail : Byte) : State :=
  s.logEvent
    { kind := .formatted, detail := detail, region := none,
      address := some (toAddr (journalBase s.ctrl.straps)), count := 0 }

/-- R102: the last write of a commanded format has completed. -/
def State.commandedFormatDone (s : State) : State :=
  let s := s.setCtrl { s.ctrl with format := none }
  let s := s.logFormatted 0x01
  let s := s.setJournal Journal.formatted
  s.beginLoad .initload

/-- R105, R140, R151: the last write of an automatic format has completed. -/
def State.autoFormatDone (s : State) : State :=
  let s := s.setCtrl { s.ctrl with format := none, recovery := Recovery.idle }
  let s := s.logFormatted 0x00
  let s := s.setJournal Journal.formatted
  let s := s.writeReport .formatted 0 false false false 1 0
  let s := s.logRecovered .formatted (some (toAddr (journalBase s.ctrl.straps))) 0
  s.beginLoad .initload

/-- One write of the format in progress has completed. -/
def State.formatTake (s : State) : State :=
  match s.ctrl.format with
  | some k =>
    if k + 1 < formatLength s.ctrl.straps then
      s.setCtrl { s.ctrl with format := some (k + 1) }
    else if s.ctrl.opState = .locked then
      s.commandedFormatDone
    else
      s.autoFormatDone
  | none => s

/-! ## The ends of a scan (R148, R149) -/

/-- R148, R149: the journal description at the end of a recovery whose scan stands at `p` with `expected`. -/
def State.describeJournal (s : State) : State :=
  let r := s.ctrl.recovery
  s.setJournal
    { s.journal with
      live := []
      tail := r.p
      nextWrite := r.expected
      nextApply := r.expected
      head := r.anchorHead
      held := forwardDistance s.journalLength r.anchorHead r.p }

/-- R148: the scan ends without a second failure. -/
def State.scanEnd (s : State) : State :=
  let r := s.ctrl.recovery
  let outcome := if r.replays = 0 ∧ r.lag = false then RecoveryOutcome.clean else .replayed
  let s := s.describeJournal
  let s := s.writeReport outcome (saturate r.replays) r.lag r.damaged r.oneAnchor s.journal.generation
    (saturate r.firstFaults)
  let s := s.logRecovered outcome (some (s.scanAddress r.p)) (saturate r.replays)
  (s.setRecovery Recovery.idle).beginLoad .initload

/-- R149: a second compare failure ends a replay: the part enters FAULTED with cause RECOVERY. -/
def State.recoveryFault (s : State) : State :=
  let r := s.ctrl.recovery
  let s := s.describeJournal
  let s := s.writeReport .fault (saturate r.replays) r.lag r.damaged r.oneAnchor s.journal.generation
    (saturate r.firstFaults)
  let s := s.logRecovered .fault (some (s.scanAddress r.p)) (saturate r.replays)
  let s := s.setCtrl { s.ctrl with cause := .recovery, recovery := Recovery.idle }
  let s := s.logEvent
    { kind := .faulted, detail := FaultCause.recovery.code, region := none, address := none, count := 0 }
  (s.enterState .faulted).endStateHold

/-! ## Examining positions (R141 to R143) -/

/-- R141: the scan comes to a position: the cases Limit and End of journal are decided before any read. -/
def State.examine (s : State) : State :=
  let r := s.ctrl.recovery
  if s.journalLength ≤ r.advance then
    s.scanEnd
  else
    s.setRecovery
      { r with phase := .scan, buf := [], p := if r.p = s.journalLength then 0 else r.p }

/-- R141: the scan ends with DAMAGED set. -/
def State.scanDamaged (s : State) : State :=
  (s.setRecovery { s.ctrl.recovery with damaged := true }).scanEnd

/-- R141: a PAD above offset 0 is followed. -/
def State.followPad (s : State) : State :=
  let r := s.ctrl.recovery
  (s.setRecovery { r with advance := r.advance + (s.journalLength - r.p), p := 0 }).examine

/-- R142: a lagged entry of length `l` is passed over. -/
def State.passLag (s : State) (l : Nat) : State :=
  let r := s.ctrl.recovery
  (s.setRecovery
    { r with lag := true, expected := r.expected + 1, p := r.p + l, advance := r.advance + l }).examine

/-- R144: the replay's segments are placed in the images of slots 0 to 3, the slots staying FREE. -/
def Staging.buffer (g : Staging) : List (Fin 8) → List Segment → Staging
  | i :: is, x :: xs =>
    Staging.buffer
      (g.setSlot i
        { g.slots[i] with
          image := Vector.ofFn fun k : Fin 128 =>
            if k.val < x.data.length then byteAt x.data k.val else g.slots[i].byte k.val }) is xs
  | _, _ => g

/-- R144: the replay of a well-formed entry begins. -/
def State.beginReplay (s : State) (segs : List Segment) (l : Nat) : State :=
  let s := s.setStage (s.stage.buffer indices8 segs)
  s.setRecovery
    { s.ctrl.recovery with
      phase := .home
      retry := 0
      segments := segs.map fun x => { home := x.home, length := x.data.length }
      length := l
      seg := 0
      idx := 0 }

/-- R141: what the mark at `p` leads to: a PAD, a header to read, or the end of the scan. -/
def State.scanMark (s : State) (mark : Byte) : State :=
  let r := s.ctrl.recovery
  if mark = markPad then
    if 0 < r.p then s.followPad else s.scanEnd
  else if mark = markValid ∨ mark = markRetired then
    if r.p + 14 ≤ s.journalLength then s.setRecovery { r with buf := [mark] } else s.scanEnd
  else
    s.scanEnd

/-- R141, R142: an entry that fails a test with the expected sequence is damage at a VALID mark, and at a RETIRED mark
while the first flag is set. -/
def State.scanUnfit (s : State) (bs : List Byte) : State :=
  let r := s.ctrl.recovery
  if wordAt bs 1 = r.expected ∧ (byteAt bs 0 = markValid ∨ r.first) then s.scanDamaged else s.scanEnd

/-- R141: the header has been read: the body follows when it carries the expected sequence and a length in reach. -/
def State.scanHeader (s : State) (bs : List Byte) : State :=
  let r := s.ctrl.recovery
  if wordAt bs 1 = r.expected ∧ 14 ≤ headerLength bs ∧ r.p + headerLength bs ≤ s.journalLength then
    s.setRecovery { r with buf := bs }
  else
    s.scanUnfit bs

/-- R141: the whole entry has been read: Replay, Anchor lag, Damaged, or Retired elsewhere. -/
def State.scanEntry (s : State) (bs : List Byte) : State :=
  let r := s.ctrl.recovery
  match wellFormedEntry s.ctrl.straps bs r.p r.expected with
  | some segs =>
    if byteAt bs 0 = markValid then s.beginReplay segs bs.length
    else if r.first then s.passLag bs.length
    else s.scanEnd
  | none => s.scanUnfit bs

/-- R141: the scan takes a byte read at `p`. -/
def State.scanTake (s : State) (b : Byte) : State :=
  let r := s.ctrl.recovery
  let bs := r.buf ++ [b]
  if bs.length = 1 then s.scanMark b
  else if bs.length < 8 then s.setRecovery { r with buf := bs }
  else if bs.length = 8 then s.scanHeader bs
  else if bs.length < headerLength bs then s.setRecovery { r with buf := bs }
  else s.scanEntry bs

/-! ## The anchor choice (R140) -/

/-- R98, R140, R151: no anchor with AFMT low: the part enters LOCKED. -/
def State.enterLocked (s : State) : State :=
  let s := s.setJournal Journal.cleared
  let s := s.logEvent
    { kind := .noAnchor, detail := 0, region := none, address := none, count := 0 }
  let s := s.writeReport .noAnchor 0 false false false 0 0
  let s := s.logRecovered .noAnchor none 0
  let s := s.setRecovery Recovery.idle
  (s.enterState .locked).endStateHold

/-- R105: no anchor with AFMT high: the automatic format begins. -/
def State.beginAutoFormat (s : State) : State :=
  s.setCtrl
    { s.ctrl with format := some 0, recovery := { s.ctrl.recovery with phase := .format } }

/-- R140: both copies have been read; the scan starts at the chosen one, or the path without an anchor is taken. -/
def State.anchorsRead (s : State) (bs : List Byte) : State :=
  let a := readAnchor s.ctrl.straps (bs.take 16)
  let b := readAnchor s.ctrl.straps (bs.drop 16)
  match chooseAnchor a b with
  | some (c, x) =>
    let s := s.setJournal { s.journal with inUse := some c, generation := x.generation }
    let r := s.ctrl.recovery
    (s.setRecovery
      { r with
        oneAnchor := a.isNone || b.isNone
        p := x.head
        expected := x.next
        anchorHead := x.head }).examine
  | none => if s.ctrl.straps.afmt then s.beginAutoFormat else s.enterLocked

/-- R140: recovery takes a byte of the anchor copies, A first and then B. -/
def State.anchorsTake (s : State) (b : Byte) : State :=
  let r := s.ctrl.recovery
  if r.buf.length < 31 then s.setRecovery { r with buf := r.buf ++ [b] }
  else s.anchorsRead (r.buf ++ [b])

/-! ## A replay (R144 to R147) -/

/-- R144, R145: the accesses for the segment in work: its bytes come from the image buffer of the slot of its number. -/
def State.replaySegment (s : State) : List MemStep :=
  let r := s.ctrl.recovery
  match r.segments[r.seg]?, indices8[r.seg]? with
  | some g, some i => copySteps g.home ((s.slot i).image.toList.take g.length)
  | _, _ => []

/-- R145, R146: the sequence of the replay's phase. -/
def State.replayProgram (s : State) : List MemStep :=
  let r := s.ctrl.recovery
  match r.phase with
  | .home => s.replaySegment
  | .retire => markSteps (s.journalAddr r.p) markRetired
  | .anchor => s.anchorProgram r.p r.length (r.expected + 1)
  | .idle | .anchors | .scan | .format => []

/-- R146: the anchor write of a replay is complete; the scan goes on behind the entry. -/
def State.replayDone (s : State) : State :=
  let r := s.ctrl.recovery
  let s := s.setJournal
    { s.journal with inUse := some s.journal.nextCopy, generation := s.journal.generation + 1 }
  (s.setRecovery
    { r with
      first := false
      replays := r.replays + 1
      expected := r.expected + 1
      p := r.p + r.length
      advance := r.advance + r.length
      anchorHead := r.p + r.length
      segments := []
      length := 0
      seg := 0
      idx := 0 }).examine

/-- R147: a compare failed in a replay. -/
def State.replayFault (s : State) (addr : Nat) : State :=
  let r := s.ctrl.recovery
  if r.retry = 0 then
    let s := s.logApplyFault detailFirst none addr r.expected
    s.setRecovery { r with retry := 1, firstFaults := r.firstFaults + 1, idx := 0 }
  else
    (s.logApplyFault detailSecond none addr r.expected).recoveryFault

/-- R145, R146: the next step of the replay, or what follows it. -/
def State.replayAdvance (s : State) (x : StepResult) : State :=
  let r := s.ctrl.recovery
  match x, r.phase with
  | .unequal addr, _ => s.replayFault addr
  | .more, _ => s.setRecovery { r with idx := r.idx + 1 }
  | .done, .home =>
    if r.seg + 1 < r.segments.length then s.setRecovery { r with seg := r.seg + 1, idx := 0 }
    else s.setRecovery { r with phase := .retire, idx := 0 }
  | .done, .retire => s.setRecovery { r with phase := .anchor, idx := 0 }
  | .done, .anchor => s.replayDone
  | .done, _ => s

/-- R36: recovery takes the result of its access. -/
def State.recoveryTake (s : State) (b : Byte) : State :=
  match s.ctrl.recovery.phase with
  | .idle => s
  | .anchors => s.anchorsTake b
  | .scan => s.scanTake b
  | .home | .retire | .anchor =>
    s.replayAdvance (stepResult s.replayProgram s.ctrl.recovery.idx b)
  | .format => s.formatTake

/-! ## The port's users without rotation (R39) -/

/-- The next write of the format in progress. -/
def State.formatWants (s : State) : Option Access :=
  s.ctrl.format.bind fun k => (formatStep s.ctrl.straps k).map fun m => m.access .system

/-- The access recovery asks for. -/
def State.recoveryWants (s : State) : Option Access :=
  let r := s.ctrl.recovery
  match r.phase with
  | .idle => none
  | .anchors => some { owner := .system, addr := s.base + r.buf.length, op := .read }
  | .scan => some { owner := .system, addr := s.journalAddr (r.p + r.buf.length), op := .read }
  | .home | .retire | .anchor => (s.replayProgram[r.idx]?).map fun m => m.access .system
  | .format => s.formatWants

/-- R39: the access that recovery, the loader or the format asks for, by operating state. -/
def State.systemWants (s : State) : Option Access :=
  match s.ctrl.opState with
  | .recovering => s.recoveryWants
  | .initload | .reloading => s.loaderWants
  | .locked => s.formatWants
  | .starting | .running | .faulted | .frozen => none

/-- The system's requester takes the result of its access. -/
def State.systemTake (s : State) (b : Byte) : State :=
  match s.ctrl.opState with
  | .recovering => s.recoveryTake b
  | .initload | .reloading => s.loaderTake b
  | .locked => s.formatTake
  | .starting | .running | .faulted | .frozen => s

/-- R39: recovery, the loader or the format takes the port when it is free; the last granted requester stays. -/
def State.grantSystem (s : State) : State :=
  if s.port.inFlight.isNone then
    match s.systemWants with
    | some a => s.setPort { s.port with inFlight := some a }
    | none => s
  else
    s

/-- R38, R39, R40: when the port is free the arbiter grants a request of the host path or an engine in rotation, and
without one the port goes to recovery, the loader or the format. No grant is made in FROZEN or without supply. -/
def State.grant (s : State) : State :=
  if s.supply && s.ctrl.opState != .frozen then (s.grantAmong Requester.all).grantSystem else s

end Sys2Proof.Machine
end

