-- ==== Sys2Proof/Machine/EngineCommands.lean ====
section
/-! DEFINITION. MEMORY_ACCESS_COMPLETE and the moments at which the engines act by themselves (R36, R108, R111, R118). -/

namespace Sys2Proof.Machine

/-- R36: the result of a completed access goes to the requester that made it. -/
def State.deliver (s : State) (owner : AccessOwner) (b : Byte) (order : Order) : State :=
  match owner with
  | .requester .host => s.hostTake b
  | .requester .writer => s.writerTake b order
  | .requester .applier => s.applierTake b order
  | .system => s.systemTake b

/-- R52: a STORE_PROFILE that the port takes comes next in the queue: only then is there another claim on a freed slot. -/
def State.storeProfileNext (s : State) : Bool :=
  s.mgmt.phase == .command && s.ctrl.opState == .running && s.pending.head? == some .storeProfile

/-- R108, R149: the Writer is IDLE in RUNNING with no clearing write left: it takes a group when there is one. -/
def State.writerFree (s : State) : Bool :=
  s.supply && s.ctrl.opState == .running && s.writer.phase == .idle && s.writer.clearing == 0

/-- R111: the Writer is in PLACE in RUNNING. -/
def State.writerPlacing (s : State) : Bool :=
  s.supply && s.ctrl.opState == .running && s.writer.phase == .place

/-- R118: the Applier is IDLE in RUNNING: it takes an entry when there is one. -/
def State.applierFree (s : State) : Bool :=
  s.supply && s.ctrl.opState == .running && s.applier.phase == .idle

/-- R38: an engine's take or placement that has its occasion comes next in the queue: its request is posted at about the
moment at which the port becomes free. -/
def State.takeNext (s : State) : Bool :=
  match s.pending.head? with
  | some .writerTakeGroup => s.writerFree && !s.stage.queue.isEmpty
  | some .writerPlace => s.writerPlacing
  | some .applierTakeEntry => s.applierFree && !s.journal.live.isEmpty
  | _ => false

/-- R38: the order lets an engine's take that is next post its request before the arbiter's choice. -/
def takeGoesFirst : Order → Bool
  | .heldThenTake | .takeFirst => true
  | .heldFirst | .otherFirst => false

/-- R38: the arbiter's choice, or, where the order lets an engine's take come first and one is next, no choice yet: the
take makes it, its own request among the others (log 8). -/
def State.grantBy (s : State) (order : Order) : State :=
  if takeGoesFirst order && s.takeNext then s else s.grant

/-- R38, R52: the arbiter chooses, a write in the slot hold is then decoded afresh when a slot is FREE, unless STORE
PROFILE comes first, and the request it may post waits for the next choice, made at once when the port is still free. -/
def State.chooseThenHeld (s : State) : State :=
  let s := s.grant
  (if s.storeProfileNext then s else s.endSlotHold).grant

/-- R36, R38, R52: what follows when the requester has taken its result. A freed slot goes to the held write, unless the
other claim on it comes first; and the requests that the re-decoded write and an engine's take post come before the
arbiter's choice, or after it. DESIGN CHOICE (log 8), safe: the operand gives the orders of each race. -/
def State.afterAccess (s : State) (order : Order) : State :=
  match order with
  | .heldFirst | .heldThenTake => s.endSlotHold.grantBy order
  | .otherFirst => s.chooseThenHeld
  | .takeFirst => if s.takeNext then s else s.chooseThenHeld

/-- MEMORY_ACCESS_COMPLETE (R36): the access in flight completes with the memory's answer, its requester takes the
result, a slot hold ends if a slot is FREE, and the arbiter makes its next grant (R38), in the order that `order` says
(log 8). Without an access in flight nothing happens (log 5). -/
def execMemoryAccessComplete (answer : MemAnswer) (order : Order) (s : State) :
    Host.Outcome State Fault Refusal :=
  if s.supply then
    match s.port.inFlight with
    | some a =>
      match s.completeAccess a answer with
      | some (s', b) => .next ((s'.deliver a.owner b order).afterAccess order)
      | none => .fault .beyondMemory
    | none => .next s
  else
    .next s

/-- WRITER_TAKE_GROUP (R108, R149): in RUNNING an IDLE Writer with no clearing write left takes the group at the head of
the commit queue: its slots become WRITING, L and the retry count are set, and the merge runs as far as it goes without
memory. The arbiter then makes its choice, and with it what a completed access has left to this command (log 8). -/
def execWriterTakeGroup (s : State) : Host.Outcome State Fault Refusal :=
  if s.writerFree then
    match s.stage.queue with
    | grp :: rest =>
      let s := s.setStage { (s.stage.setStates grp.slots .writing) with queue := rest }
      let s := s.setWriter
        { Writer.idle with phase := .merge, group := some grp, length := s.stage.groupLength grp.slots }
      .next s.mergeOn.chooseThenHeld
    | [] => .next s
  else
    .next s

/-- WRITER_PLACE (R111): in RUNNING a Writer in PLACE tries to place its entry; with no room it stays (R96). The choice
follows as in WRITER_TAKE_GROUP. -/
def execWriterPlace (s : State) : Host.Outcome State Fault Refusal :=
  if s.writerPlacing then .next s.placeEntry.chooseThenHeld else .next s

/-- APPLIER_TAKE_ENTRY (R118): in RUNNING an IDLE Applier takes the head of the live-entry list. The choice follows as in
WRITER_TAKE_GROUP. -/
def execApplierTakeEntry (s : State) : Host.Outcome State Fault Refusal :=
  if s.applierFree then
    match s.journal.live with
    | e :: _ =>
      let s := s.setStage (s.stage.setStates e.group.slots .applying)
      let s := s.setApplier { Applier.idle with phase := .home }
      .next s.chooseThenHeld
    | [] => .next s
  else
    .next s

end Sys2Proof.Machine
end

