-- ==== Sys2Proof/Machine/HostCommands.lean ====
section
/-! DEFINITION. The commands of the host port: HOST_CYCLE, HOST_CYCLE_END and HOST_CYCLE_WITHDRAWN (R20, R21). -/

namespace Sys2Proof.Machine

/-- R20: the host port takes a cycle in this state. -/
def State.takesCycles (s : State) : Bool :=
  s.supply && s.host.phase == .idle && !s.pins.srst && s.ctrl.opState != .frozen

/-- R20: a cycle is captured; the port has not decoded it yet. -/
def HostPort.captured (kind : CycleKind) (addr : Addr) (data : Byte) : HostPort :=
  { HostPort.idle with kind := kind, addr := addr, data := data }

/-- HOST_CYCLE (R20): with HSEL# and exactly one strobe, while the port takes cycles, the cycle is captured, decoded and
served; the arbiter then looks at what it posted. Otherwise no cycle is taken (log 21). -/
def execHostCycle (sel rd wr : Bool) (addr : Addr) (data : Byte) (s : State) :
    Host.Outcome State Fault Refusal :=
  if sel && (rd != wr) && s.takesCycles then
    let kind := if rd then CycleKind.read else .write
    .next ((s.setHost (HostPort.captured kind addr data)).serve).grant
  else
    .next s

/-- HOST_CYCLE_END (R21): after the answer the port returns to IDLE and HD is released. -/
def execHostCycleEnd (s : State) : Host.Outcome State Fault Refusal :=
  if s.supply && s.host.phase == .answered then .next (s.setHost HostPort.idle) else .next s

/-- HOST_CYCLE_WITHDRAWN (R21): a held cycle is discarded; a cycle waiting for memory or in its access runs on, to be
completed unanswered. A cycle already withdrawn or abandoned stays so. -/
def execHostCycleWithdrawn (s : State) : Host.Outcome State Fault Refusal :=
  if s.supply then
    match s.host.phase with
    | .holding => .next (s.setHost HostPort.idle)
    | .waiting | .access =>
      if s.host.fate = .awaited then .next (s.setHost { s.host with fate := .withdrawn }) else .next s
    | .idle | .answered => .next s
  else
    .next s

end Sys2Proof.Machine
end

