-- ==== Sys2Proof/Machine/MgmtCommands.lean ====
section
/-! DEFINITION. The management port's commands (chapter 10): framing and bit times, the fifteen commands at their effect
points, and the two consumptions that wait for the last response byte. -/

namespace Sys2Proof.Machine

/-! ## Framing (R186 to R190) -/

/-- TRANSACTION_BEGIN (R187): SCS# falls; an IDLE port of a powered part enters COMMAND with its counts at zero. A
BLOCKED port takes no fall (R186). -/
def execTransactionBegin (s : State) : Host.Outcome State Fault Refusal :=
  let fell := s.setPins { s.pins with scsLow := true }
  if s.supply && !s.pins.scsLow && s.mgmt.phase == .idle then
    .next (fell.setMgmt (MgmtPort.quiet .command))
  else
    .next fell

/-- TRANSACTION_END (R187, R190): SCS# rises: the transaction ends where it stands and the port returns to IDLE; in
FROZEN the port stays BLOCKED. -/
def execTransactionEnd (s : State) : Host.Outcome State Fault Refusal :=
  let rose := s.setPins { s.pins with scsLow := false }
  if s.supply && s.ctrl.opState != .frozen then .next (rose.setMgmt (MgmtPort.quiet .idle)) else .next rose

/-- R187: a transaction has begun and awaits its command byte. -/
def State.awaitsCommand (s : State) : Bool :=
  s.supply && s.mgmt.phase == .command && s.ctrl.opState != .frozen

/-- R186, R187: a transaction can come to the end of these parameter bytes of a command: it awaits its command byte, or
has taken that command and the first of these bytes. -/
def State.awaits (s : State) (c : MgmtCommand) (params : List Byte) : Bool :=
  s.awaitsCommand
    || (s.supply && s.ctrl.opState != .frozen && s.mgmt.phase == .parameters && s.mgmt.command == some c
      && s.mgmt.params.isPrefixOf params)

/-- R187: the last bit of a byte time has been sampled: the next byte time begins. -/
def MgmtPort.nextByte (m : MgmtPort) : MgmtPort :=
  { m with bytePos := m.bytePos + 1, bitPos := 0 }

/-- R187: the eighth bit of a byte time that no row of the table stands for: a byte of the result, or of the trailer. The
last byte of TAKE and of REPORT waits for its row (TAKE_REMOVE, REPORT_READ_COMPLETE), a command or parameter byte for the
row that completes it. -/
def MgmtPort.byteDone (m : MgmtPort) : MgmtPort :=
  match m.phase with
  | .result =>
    if m.resultIndex < m.response.length then m.nextByte
    else if m.command = some .take ∨ m.command = some .report then m
    else { m.nextByte with phase := .trailer }
  | .trailer => m.nextByte
  | .idle | .command | .parameters | .blocked => m

/-- R187: one bit time of SCK in a transaction. -/
def MgmtPort.bitTime (m : MgmtPort) : MgmtPort :=
  match m.phase with
  | .idle | .blocked => m
  | .command | .parameters | .result | .trailer =>
    if m.bitPos < 7 then { m with bitPos := m.bitPos + 1 } else m.byteDone

/-- R187: what a step does when no command waits: one bit time of the transaction in progress; without one, nothing.
DESIGN CHOICE (log 6). -/
def State.tick (s : State) : State :=
  if s.supply then s.setMgmt s.mgmt.bitTime else s

/-- R187, R189: the effect point: the port holds the command, its parameters, the status and the response, and enters
RESULT. A status other than OK makes each response byte FFh (R192). -/
def State.reply (s : State) (c : MgmtCommand) (params : List Byte) (st : Status) (response : List Byte) : State :=
  s.setMgmt
    { phase := .result
      command := some c
      params := params
      bitPos := 0
      bytePos := c.paramBytes + 1
      status := st.code
      response := if st = .ok then response else List.replicate c.responseBytes 0xFF
      stale := false }

/-- R189: the shape of every command: without a transaction that can come to it nothing happens (log 5); a state that
does not accept the command gives NOT_NOW (R194); otherwise the command acts. -/
def State.effectPoint (s : State) (c : MgmtCommand) (params : List Byte) (act : State → State) : State :=
  if s.awaits c params then
    if c.accepted s.ctrl.opState s.ctrl.format.isSome then act s else s.reply c params .notNow []
  else
    s

/-- R186, R187: the command byte and these parameter bytes are complete, and more are to come: the port is in PARAMETERS
and holds them. -/
def State.takeBytes (s : State) (c : MgmtCommand) (taken : List Byte) : State :=
  if s.awaits c taken then
    s.setMgmt
      { MgmtPort.quiet .parameters with command := some c, params := taken, bytePos := taken.length + 1 }
  else
    s

/-- BAD_COMMAND (R188): an unknown code is answered BAD_COMMAND. A code that names a command is no BAD_COMMAND: such a
term is ill formed. -/
def execBadCommand (code : Byte) (s : State) : Host.Outcome State Fault Refusal :=
  if (commandOfByte code).isSome then
    .refused .illFormed
  else if s.awaitsCommand then
    .next
      (s.setMgmt
        { MgmtPort.quiet .result with bytePos := 1, status := Status.badCommand.code })
  else
    .next s

/-! ## Reading commands (R195 to R198) -/

/-- R195: the fourteen bytes of STATUS. R3 says that the default class is read back in the STATUS image, but R195 and 12.7,
which give every byte and bit of that image, give it none: the model follows R195 and 12.7. DESIGN CHOICE (log 29),
unsafe. -/
def State.statusBytes (s : State) : List Byte :=
  [s.ctrl.opState.code, s.ctrl.cause.code]
    ++ ([SlotState.free, .filling, .held, .queued, .writing, .logged, .applying].map fun st =>
        BitVec.ofNat 8 (s.stage.count st))
    ++ [BitVec.ofNat 8 s.journal.live.length]
    ++ bytes16 (BitVec.ofNat 16 (s.journal.freeBytes s.journalLength))
    ++ [BitVec.ofNat 8 s.events.queue.length,
        statusFlags s.ctrl.report.unread s.events.alert s.stage.queue.length]

/-- STATUS (R195). -/
def execStatus (s : State) : Host.Outcome State Fault Refusal :=
  .next (s.effectPoint .status [] fun s => s.reply .status [] .ok s.statusBytes)

/-- REPORT (R152, R196). -/
def execReport (s : State) : Host.Outcome State Fault Refusal :=
  .next (s.effectPoint .report [] fun s => s.reply .report [] .ok s.ctrl.report.bytes)

/-- R187: the last response byte of the transaction in RESULT completes, wherever in RESULT the port stood; it enters
TRAILER. -/
def State.lastByteOut (s : State) : State :=
  s.setMgmt
    { s.mgmt with
      phase := .trailer, bytePos := s.mgmt.params.length + 2 + s.mgmt.response.length, bitPos := 0 }

/-- R191: a transaction of this command is shifting out its result. -/
def State.shiftingOut (s : State) (c : MgmtCommand) : Bool :=
  s.supply && s.ctrl.opState != .frozen && s.mgmt.phase == .result && s.mgmt.command == some c

/-- REPORT_READ_COMPLETE (R152, R191): the eighth response byte of REPORT completes: the unread flag is cleared, unless
the report was written anew after the effect point. -/
def execReportReadComplete (s : State) : Host.Outcome State Fault Refusal :=
  if s.shiftingOut .report then
    let s' := s.lastByteOut
    if s.mgmt.stale then .next s'
    else .next (s'.setCtrl { s'.ctrl with report := { s'.ctrl.report with unread := false } })
  else
    .next s

/-- R179, R180: the status and response of PEEK and TAKE. -/
def State.replyHead (s : State) (c : MgmtCommand) : State :=
  match s.events.queue with
  | [] => s.reply c [] .empty []
  | r :: _ => s.reply c [] .ok r.bytes

/-- PEEK (R179). -/
def execPeek (s : State) : Host.Outcome State Fault Refusal :=
  .next (s.effectPoint .peek [] fun s => s.replyHead .peek)

/-- TAKE (R180). -/
def execTake (s : State) : Host.Outcome State Fault Refusal :=
  .next (s.effectPoint .take [] fun s => s.replyHead .take)

/-- TAKE_REMOVE (R180, R191): the eighth response byte of TAKE completes: the head record is removed, the growth of an
OVERFLOW count since the effect point is appended anew, and ALERT# is re-evaluated. After EMPTY nothing is removed. -/
def execTakeRemove (s : State) : Host.Outcome State Fault Refusal :=
  if s.shiftingOut .take then
    let s' := s.lastByteOut
    if s.mgmt.status = Status.ok.code then
      .next (s'.setEvents ((s.events.removeHead (byteAt s.mgmt.response 6)).evaluate s.table.mask))
    else
      .next s'
  else
    .next s

/-- GET_REGION (R17). -/
def execGetRegion (index : Option Byte) (s : State) : Host.Outcome State Fault Refusal :=
  match index with
  | none => .next (s.takeBytes .getRegion [])
  | some b =>
    .next (s.effectPoint .getRegion [b] fun s =>
      match index8 b with
      | some i => s.reply .getRegion [b] .ok (encodeEntry s.table.entries[i])
      | none => s.reply .getRegion [b] .badArg [])

/-- R66: the eight bytes of SLOT. -/
def Slot.bytes (x : Slot) : List Byte :=
  [x.state.code, x.region.code] ++ addressBytes x.home ++ [BitVec.ofNat 8 x.writtenCount]
    ++ bytes16 x.openNumber

/-- SLOT (R66, R198). -/
def execSlot (index : Option Byte) (s : State) : Host.Outcome State Fault Refusal :=
  match index with
  | none => .next (s.takeBytes .slot [])
  | some b =>
    .next (s.effectPoint .slot [b] fun s =>
      match index8 b with
      | some i => s.reply .slot [b] .ok (s.slot i).bytes
      | none => s.reply .slot [b] .badArg [])

/-- GET_MASK (R181, R198). -/
def execGetMask (s : State) : Host.Outcome State Fault Refusal :=
  .next (s.effectPoint .getMask [] fun s => s.reply .getMask [] .ok (bytes16 s.table.mask))

/-! ## Commands that change the configuration (R199) -/

/-- The bytes of an entry in the order sent. -/
def entryBytesList (e : EntryBytes) : List Byte :=
  [e.b0, e.b1, e.b2, e.b3, e.b4, e.b5, e.b6, e.b7]

/-- The parameter bytes of PUT_REGION. -/
def putParams (index : Byte) (e : EntryBytes) : List Byte :=
  index :: entryBytesList e

/-- R16: the entry at the index is replaced as a whole. -/
def State.writeEntry (s : State) (i : Fin 8) (e : RegionEntry) : State :=
  s.setTable { s.table with entries := s.table.entries.set i e }

/-- PUT_REGION (R10 to R16). -/
def execPutRegion (index : Option Byte) (entry : EntryArg) (s : State) : Host.Outcome State Fault Refusal :=
  match index, entry with
  | none, _ => .next (s.takeBytes .putRegion [])
  | some b, .first e n => .next (s.takeBytes .putRegion (b :: (entryBytesList e).take n.val))
  | some b, .whole e =>
    .next (s.effectPoint .putRegion (putParams b e) fun s =>
      match index8 b with
      | none => s.reply .putRegion (putParams b e) .badArg []
      | some i =>
        let raw := rawEntry e
        let st := s.putStatus i raw
        let s := if st = .ok then s.writeEntry i raw.stored else s
        s.reply .putRegion (putParams b e) st [])

/-- MASK (R181, R182). -/
def execMask (high low : Option Byte) (s : State) : Host.Outcome State Fault Refusal :=
  match high, low with
  | none, _ => .next (s.takeBytes .mask [])
  | some h, none => .next (s.takeBytes .mask [h])
  | some h, some l =>
    .next (s.effectPoint .mask [h, l] fun s => (s.changeMask (word16 h l)).reply .mask [h, l] .ok [])

/-- SET_DEFAULT (R171). -/
def execSetDefault (code : Option Byte) (s : State) : Host.Outcome State Fault Refusal :=
  match code with
  | none => .next (s.takeBytes .setDefault [])
  | some b =>
    .next (s.effectPoint .setDefault [b] fun s =>
      match defaultClassOfCode b with
      | some d => (s.setTable { s.table with defaultClass := d }).reply .setDefault [b] .ok []
      | none => s.reply .setDefault [b] .badArg [])

/-! ## Commands that start or release work (R200, R201) -/

/-- STORE_PROFILE (R52, R167): the profile image takes the lowest FREE slot and joins the commit queue; a held write
that has lost that slot to it is decoded afresh, and takes another FREE slot, is held again, or is served as its address
now asks. -/
def execStoreProfile (s : State) : Host.Outcome State Fault Refusal :=
  .next (s.effectPoint .storeProfile [] fun s =>
    match s.stage.lowestFree with
    | some i => ((s.queueProfile i).reply .storeProfile [] .ok []).redecodeHeld.grant
    | none => s.reply .storeProfile [] .noSlot [])

/-- LOAD_PROFILE (R166). -/
def execLoadProfile (s : State) : Host.Outcome State Fault Refusal :=
  .next (s.effectPoint .loadProfile [] fun s =>
    if s.stage.allFree then ((s.beginLoad .reloading).reply .loadProfile [] .ok []).grant
    else s.reply .loadProfile [] .busyLive [])

/-- FORMAT (R102). -/
def execFormat (s : State) : Host.Outcome State Fault Refusal :=
  .next (s.effectPoint .format [] fun s =>
    ((s.setCtrl { s.ctrl with format := some 0 }).reply .format [] .ok []).grant)

/-- R124: the access in flight is this engine's. -/
def State.engineBusy (s : State) (r : Requester) : Bool :=
  s.port.inFlight.any fun a => a.owner == .requester r

/-- R126, R127: the Writer at RESUME: its retry count is 0 and it goes on; with its access of the entry to FAULTED still in
flight it goes on when that completes (log 32). -/
def State.resumeWriter (s : State) : State :=
  let w := { s.writer with retry := 0 }
  s.setWriter (if s.engineBusy .writer then w.resumedLater else w.resumed)

/-- R126, R128: the Applier at RESUME, as the Writer. -/
def State.resumeApplier (s : State) : State :=
  let a := { s.applier with retry := 0 }
  s.setApplier (if s.engineBusy .applier then a.resumedLater else a.resumed)

/-- R149: after a recovery fault the Writer clears the free journal bytes, from the tail forward, before its first
group. -/
def State.beginClearing (s : State) : State :=
  s.setWriter
    { s.writer with
      clearing := s.journal.freeBytes s.journalLength
      clearAt := s.journal.tail % s.journalLength }

/-- R126 to R128, R149: the part returns to RUNNING and each engine goes on. -/
def State.resumeEngines (s : State) : State :=
  let s := s.resumeWriter.resumeApplier
  let s := if s.ctrl.cause = .recovery then s.beginClearing else s
  let s := s.setCtrl { s.ctrl with cause := .noCause }
  let s := s.enterState .running
  if s.writer.phase = .merge then s.mergeOn else s

/-- RESUME (R126). -/
def execResume (s : State) : Host.Outcome State Fault Refusal :=
  .next (s.effectPoint .resume [] fun s => (s.resumeEngines.reply .resume [] .ok []).grant)

/-- R77: every slot on the held list of `t` becomes FREE and the list empty. -/
def State.discardHeldOn (s : State) (t : Fin 8) : State :=
  let g := s.stage.freeSlots s.stage.held[t]
  let n := s.stage.held[t].length
  let s := s.setStage { g with held := g.held.set t [] }
  if n = 0 then s
  else
    s.logEvent
      { kind := .slotsDiscarded, detail := 0, region := some t, address := none,
        count := BitVec.ofNat 8 n }

/-- DISCARD_HELD (R76, R77): the held list of the trigger is freed; a held write takes the lowest freed slot. -/
def execDiscardHeld (trigger : Option Byte) (s : State) : Host.Outcome State Fault Refusal :=
  match trigger with
  | none => .next (s.takeBytes .discardHeld [])
  | some b =>
    .next (s.effectPoint .discardHeld [b] fun s =>
      match index8 b with
      | none => s.reply .discardHeld [b] .badArg []
      | some t =>
        ((s.discardHeldOn t).reply .discardHeld [b] .ok
          [BitVec.ofNat 8 s.stage.held[t].length]).endSlotHold.grant)

end Sys2Proof.Machine
end

