-- ==== Sys2Proof/Machine/PowerCommands.lean ====
section
/-! DEFINITION. The supply, PFAIL# and SRST# (R24, R61, R137, R138, R154 to R156, R158). -/

namespace Sys2Proof.Machine

/-- R32, R40, R154: PFAIL# stops the part: the host port is IDLE, every request is withdrawn, the transaction is
abandoned and the port BLOCKED, and the part enters FROZEN. The access in flight has completed. -/
def State.freeze (s : State) : State :=
  let s := s.setPort { s.port with inFlight := none }
  let s := s.setHost HostPort.idle
  let s := s.setMgmt (MgmtPort.quiet .blocked)
  let s := s.setCtrl { s.ctrl with interrupted := s.ctrl.opState }
  s.enterState .frozen

/-- R138: every volatile field but those of the host and the management port as STARTING sets it, with these straps
sampled (R137). IMAGE, the pins, the memory and the queue of commands are no part of it. -/
def State.clearVolatile (s : State) (t : Straps) : State :=
  let s := s.setCtrl (Controller.starting t)
  let s := s.setTable (RegionTable.starting t)
  let s := s.setStage (Staging.cleared s.stage.slots)
  let s := s.setJournal Journal.cleared
  let s := s.setWriter Writer.idle
  let s := s.setApplier Applier.idle
  let s := s.setPort MemPort.cleared
  s.setEvents EventBlock.cleared

/-- R138, R186: every volatile field as the supply's coming sets it. -/
def State.startUp (s : State) (t : Straps) : State :=
  let s := (s.clearVolatile t).setHost HostPort.idle
  s.setMgmt (MgmtPort.fresh s.pins.scsLow)

/-- R23: the host port at the end of a STARTING in which it took cycles: a cycle taken there stays held. -/
def HostPort.afterStarting (h : HostPort) : HostPort :=
  if h.phase = .holding then h else HostPort.idle

/-- R134, R138: STARTING is over: the part enters RECOVERING, or FROZEN with PFAIL# asserted. -/
def State.endStarting (s : State) : State :=
  if s.pins.pfail then s.freeze else (s.beginRecovery .powerup).grant

/-- POWER_UP (R137, R138): the supply reaches operating level, or STARTING, the state at reset, ends (log 1): the straps
are sampled, the volatile state is cleared, and the part enters RECOVERING, or FROZEN with PFAIL# asserted. A cycle that was
taken in STARTING stays held (R23) and a transaction that was begun there goes on (R190, R202). -/
def execPowerUp (straps : Straps) (s : State) : Host.Outcome State Fault Refusal :=
  if !s.supply then
    .next ((s.setSupply true).startUp straps).endStarting
  else if s.ctrl.opState = .starting then
    .next ((s.clearVolatile straps).setHost s.host.afterStarting).endStarting
  else
    .next s

/-- R41, R45: the slots after a loss of supply; their IMAGE bytes are free values (log 4). -/
def lostSlots (draw : Nat) : Vector Slot 8 :=
  Vector.ofFn fun i : Fin 8 => Slot.cleared (Config.lostImage draw i.val)

/-- R155: the supply is gone: volatile state is lost, the memory and the pins' levels stay. The lost fields are stored
as STARTING will set them (log 16). -/
def State.lost (s : State) : State :=
  let s := s.startUp s.ctrl.straps
  let s := s.setStage (Staging.cleared (lostSlots s.freeDraws))
  (s.setFreeDraws (s.freeDraws + 1)).setSupply false

/-- SUPPLY_LOSS (R155): the loss of supply ends every operating state; an access in flight ends as the memory's answer
says (log 7). -/
def execSupplyLoss (answer : MemAnswer) (s : State) : Host.Outcome State Fault Refusal :=
  if s.supply then
    match s.port.inFlight with
    | some a =>
      match s.completeAccess a answer with
      | some (s', _) => .next s'.lost
      | none => .fault .beyondMemory
    | none => .next s.lost
  else
    .next s

/-- R154, R138: PFAIL# stops the powered part once the access in flight is done; in STARTING the clearing is completed
first. -/
def State.stopOnPfail (s : State) : State :=
  if s.ctrl.opState = .starting then (s.startUp s.ctrl.straps).freeze else s.freeze

/-- PFAIL_ASSERT (R154): PFAIL# is asserted: the access in flight completes, its compare not acted on, and the part
enters FROZEN. In FROZEN, or without supply, only the pin's level changes. -/
def execPfailAssert (answer : MemAnswer) (s : State) : Host.Outcome State Fault Refusal :=
  let s := s.setPins { s.pins with pfail := true }
  if s.supply && s.ctrl.opState != .frozen then
    match s.port.inFlight with
    | some a =>
      match s.completeAccess a answer with
      | some (s', _) => .next s'.stopOnPfail
      | none => .fault .beyondMemory
    | none => .next s.stopOnPfail
  else
    .next s

/-- R156: what the PFAIL restart clears. The event queue, the mask, the report and the straps stay. -/
def State.restart (s : State) : State :=
  let s := s.setStage (Staging.cleared s.stage.slots)
  let s := s.setTable
    { s.table with
      entries := RegionTable.noEntries
      defaultClass := DefaultClass.ofDefro s.ctrl.straps.defro }
  let s := s.setJournal Journal.cleared
  let s := s.setWriter Writer.idle
  let s := s.setApplier Applier.idle
  let s := s.setHost HostPort.idle
  let s := s.setPort MemPort.cleared
  let s := s.setMgmt (MgmtPort.fresh s.pins.scsLow)
  s.setCtrl
    { s.ctrl with
      cause := .noCause, lastCount := 0, loader := [], format := none, recovery := Recovery.idle }

/-- PFAIL_RESTART (R156): PFAIL# is released; in FROZEN with the supply kept the part makes the PFAIL restart, logs it
with the interrupted state and the number of live slots, and enters RECOVERING. -/
def execPfailRestart (s : State) : Host.Outcome State Fault Refusal :=
  let s := s.setPins { s.pins with pfail := false }
  if s.supply && s.ctrl.opState == .frozen then
    let live := 8 - s.stage.count .free
    let s := s.restart
    let s := s.setEvents (s.events.evaluate s.table.mask)
    let s := s.logEvent
      { kind := .pfailRestart, detail := s.ctrl.interrupted.code, region := none, address := none,
        count := BitVec.ofNat 8 live }
    .next (s.beginRecovery .pfail).grant
  else
    .next s

/-- R24: what SRST# does to the cycle in progress, by its phase. -/
def HostPort.onReset (h : HostPort) : HostPort :=
  match h.phase with
  | .access => { h with fate := .abandoned }
  | .idle | .waiting | .holding | .answered => HostPort.idle

/-- R61, R79: every FILLING and HELD slot becomes FREE and every held list empty; one SLOTS_DISCARDED reports them. -/
def State.discardOpen (s : State) : State :=
  let filling := s.stage.withState .filling
  let held := s.stage.withState .held
  let g := s.stage.freeSlots (filling ++ held)
  let s := s.setStage { g with held := Vector.replicate 8 [] }
  if filling = [] ∧ held = [] then s
  else
    s.logEvent
      { kind := .slotsDiscarded, detail := BitVec.ofNat 8 filling.length, region := none, address := none,
        count := BitVec.ofNat 8 held.length }

/-- HOST_RESET (R24, R61, R62, R158): SRST# is asserted: the host cycle is treated by its phase, and in RUNNING and
FAULTED the open and HELD slots are freed. FROZEN ignores it but for the pin (R155). -/
def execHostReset (s : State) : Host.Outcome State Fault Refusal :=
  let asserted := s.setPins { s.pins with srst := true }
  if s.pins.srst || !s.supply || s.ctrl.opState == .frozen then
    .next asserted
  else
    let s := asserted.setHost s.host.onReset
    if s.ctrl.opState = .running ∨ s.ctrl.opState = .faulted then .next s.discardOpen else .next s

/-- HOST_RESET_RELEASE (R24): SRST# is released; cycles are taken again as R20 says. -/
def execHostResetRelease (s : State) : Host.Outcome State Fault Refusal :=
  .next (s.setPins { s.pins with srst := false })

end Sys2Proof.Machine
end

