-- ==== Sys2Proof/Machine/Dispatch.lean ====
section
/-! DEFINITION. exec: one arm per command, each a direct call of its meaning. -/

namespace Sys2Proof.Machine

/-- The effect of a command on everything but the queue. -/
def exec (i : Instr) (s : State) : Host.Outcome State Fault Refusal :=
  match i with
  | .powerUp straps => Sys2Proof.Machine.execPowerUp straps s
  | .supplyLoss answer => Sys2Proof.Machine.execSupplyLoss answer s
  | .pfailAssert answer => Sys2Proof.Machine.execPfailAssert answer s
  | .pfailRestart => Sys2Proof.Machine.execPfailRestart s
  | .hostReset => Sys2Proof.Machine.execHostReset s
  | .hostResetRelease => Sys2Proof.Machine.execHostResetRelease s
  | .hostCycle sel rd wr addr data => Sys2Proof.Machine.execHostCycle sel rd wr addr data s
  | .hostCycleEnd => Sys2Proof.Machine.execHostCycleEnd s
  | .hostCycleWithdrawn => Sys2Proof.Machine.execHostCycleWithdrawn s
  | .memoryAccessComplete answer order => Sys2Proof.Machine.execMemoryAccessComplete answer order s
  | .writerTakeGroup => Sys2Proof.Machine.execWriterTakeGroup s
  | .writerPlace => Sys2Proof.Machine.execWriterPlace s
  | .applierTakeEntry => Sys2Proof.Machine.execApplierTakeEntry s
  | .transactionBegin => Sys2Proof.Machine.execTransactionBegin s
  | .transactionEnd => Sys2Proof.Machine.execTransactionEnd s
  | .badCommand code => Sys2Proof.Machine.execBadCommand code s
  | .status => Sys2Proof.Machine.execStatus s
  | .report => Sys2Proof.Machine.execReport s
  | .reportReadComplete => Sys2Proof.Machine.execReportReadComplete s
  | .peek => Sys2Proof.Machine.execPeek s
  | .take => Sys2Proof.Machine.execTake s
  | .takeRemove => Sys2Proof.Machine.execTakeRemove s
  | .getRegion index => Sys2Proof.Machine.execGetRegion index s
  | .putRegion index entry => Sys2Proof.Machine.execPutRegion index entry s
  | .slot index => Sys2Proof.Machine.execSlot index s
  | .storeProfile => Sys2Proof.Machine.execStoreProfile s
  | .loadProfile => Sys2Proof.Machine.execLoadProfile s
  | .format => Sys2Proof.Machine.execFormat s
  | .resume => Sys2Proof.Machine.execResume s
  | .discardHeld trigger => Sys2Proof.Machine.execDiscardHeld trigger s
  | .mask high low => Sys2Proof.Machine.execMask high low s
  | .setDefault code => Sys2Proof.Machine.execSetDefault code s
  | .getMask => Sys2Proof.Machine.execGetMask s

end Sys2Proof.Machine
end

