-- ==== Sys2Proof/Safety.lean ====
section
/-! DEFINITION. What a good state of the part is: the invariants of the spec's rules, in the terms the statements use. -/

namespace Sys2Proof

open Sys2Proof.Machine

/-- The management command that a row brings to its effect point, with its parameter bytes (R189, R192); none for the
other rows, and for a transaction that has not come so far. -/
def Instr.mgmt : Instr → Option (MgmtCommand × List Byte)
  | .status => some (.status, [])
  | .report => some (.report, [])
  | .peek => some (.peek, [])
  | .take => some (.take, [])
  | .getRegion (some i) => some (.getRegion, [i])
  | .putRegion (some i) (.whole e) => some (.putRegion, putParams i e)
  | .getMask => some (.getMask, [])
  | .mask (some h) (some l) => some (.mask, [h, l])
  | .setDefault (some d) => some (.setDefault, [d])
  | .slot (some i) => some (.slot, [i])
  | .storeProfile => some (.storeProfile, [])
  | .loadProfile => some (.loadProfile, [])
  | .format => some (.format, [])
  | .resume => some (.resume, [])
  | .discardHeld (some t) => some (.discardHeld, [t])
  | .getRegion none | .putRegion none _ | .putRegion (some _) (.first _ _) | .mask none _
  | .mask (some _) none | .setDefault none | .slot none | .discardHeld none
  | .powerUp _ | .supplyLoss _ | .pfailAssert _ | .pfailRestart | .hostReset | .hostResetRelease
  | .hostCycle _ _ _ _ _ | .hostCycleEnd | .hostCycleWithdrawn | .memoryAccessComplete _ _
  | .writerTakeGroup | .writerPlace | .applierTakeEntry | .transactionBegin | .transactionEnd
  | .badCommand _ | .reportReadComplete | .takeRemove => none

/-- R187: the command and the parameter bytes of a row whose transaction has not come to its effect point. -/
def Instr.partway : Instr → Option (MgmtCommand × List Byte)
  | .getRegion none => some (.getRegion, [])
  | .putRegion none _ => some (.putRegion, [])
  | .putRegion (some i) (.first e n) => some (.putRegion, i :: (entryBytesList e).take n.val)
  | .mask none _ => some (.mask, [])
  | .mask (some h) none => some (.mask, [h])
  | .setDefault none => some (.setDefault, [])
  | .slot none => some (.slot, [])
  | .discardHeld none => some (.discardHeld, [])
  | .getRegion (some _) | .putRegion (some _) (.whole _) | .mask (some _) (some _) | .setDefault (some _)
  | .slot (some _) | .discardHeld (some _) | .status | .report | .peek | .take | .getMask | .storeProfile
  | .loadProfile | .format | .resume | .powerUp _ | .supplyLoss _ | .pfailAssert _ | .pfailRestart
  | .hostReset | .hostResetRelease | .hostCycle _ _ _ _ _ | .hostCycleEnd | .hostCycleWithdrawn
  | .memoryAccessComplete _ _ | .writerTakeGroup | .writerPlace | .applierTakeEntry | .transactionBegin
  | .transactionEnd | .badCommand _ | .reportReadComplete | .takeRemove => none

end Sys2Proof

namespace Sys2Proof.Machine

/-! ## Events and lines -/

/-- R177: at most 16 records, at most one of them OVERFLOW, and one OVERFLOW whenever there are 16. -/
def EventBlock.bounded (e : EventBlock) : Prop :=
  e.queue.length ≤ 16 ∧ (e.queue.countP fun r => r.report.kind == .overflow) ≤ 1
    ∧ (e.queue.length = 16 → e.hasOverflow = true)

/-- R178: the serials rise by 1 from head to tail, modulo 256, up to the one before the counter. -/
def EventBlock.serialsRise (e : EventBlock) : Prop :=
  ∀ (k : Nat) (r : EventRecord), e.queue[k]? = some r →
    r.serial = e.serial - BitVec.ofNat 8 (e.queue.length - k)

/-- R182: ALERT# is asserted exactly while the queue holds a record of an enabled kind. -/
def State.alertRight (s : State) : Prop :=
  s.events.alert = alertLevel s.table.mask s.events.queue

/-- R135: HRSTO# is asserted exactly while the operating state is STARTING, RECOVERING, INITLOAD or FROZEN. -/
def State.hrstoRight (s : State) : Prop :=
  s.ctrl.hrsto = true ↔ s.ctrl.opState ∈ [OpState.starting, .recovering, .initload, .frozen]

/-- R136: the FAULTED cause is one of the three in FAULTED and none outside FAULTED and FROZEN. -/
def State.causeRight (s : State) : Prop :=
  (s.ctrl.opState = .faulted → s.ctrl.cause ≠ .noCause)
    ∧ (s.ctrl.opState ≠ .faulted → s.ctrl.opState ≠ .frozen → s.ctrl.cause = .noCause)

/-- R134: the changes of operating state that each command can cause. -/
def OpState.mayBecome (c : Instr) (o o' : OpState) : Prop :=
  match c with
  | .powerUp _ => o' = .recovering ∨ o' = .frozen
  | .supplyLoss _ => o' = .starting
  | .pfailAssert _ => o' = .frozen
  | .pfailRestart => o = .frozen ∧ o' = .recovering
  | .memoryAccessComplete _ _ =>
    (o, o') ∈ [(OpState.recovering, OpState.initload), (.recovering, .locked), (.recovering, .faulted),
      (.initload, .running), (.reloading, .running), (.running, .faulted), (.locked, .initload)]
  | .loadProfile => o = .running ∧ o' = .reloading
  | .resume => o = .faulted ∧ o' = .running
  | .hostReset | .hostResetRelease | .hostCycle _ _ _ _ _ | .hostCycleEnd | .hostCycleWithdrawn
  | .writerTakeGroup | .writerPlace | .applierTakeEntry | .transactionBegin | .transactionEnd
  | .badCommand _ | .status | .report | .reportReadComplete | .peek | .take | .takeRemove
  | .getRegion _ | .putRegion _ _ | .slot _ | .storeProfile | .format | .discardHeld _ | .mask _ _
  | .setDefault _ | .getMask => False

/-! ## The region table (R1, R2, R5, R7) -/

/-- R1, R2, R5: the contents an entry can have below a hidden area at `base`. -/
def RegionEntry.normal (e : RegionEntry) (base : Nat) : Prop :=
  if e.valid then
    e.base.toNat ≤ e.limit.toNat ∧ e.limit.toNat < base
      ∧ (e.cls = .record → 2 ≤ e.rsize ∧ e.rsize ≤ 128 ∧ (e.limit.toNat - e.base.toNat + 1) % e.rsize = 0
          ∧ e.commit < e.rsize)
      ∧ (e.cls ≠ .record → e.rsize = 0 ∧ e.commit = 0 ∧ e.follows = none)
  else
    e = RegionEntry.invalid

/-- R2: no address lies in two valid entries. -/
def RegionTable.disjoint (entries : Vector RegionEntry 8) : Prop :=
  ∀ (i j : Fin 8) (a : Nat), i ≠ j → entries[i].covers a = true → entries[j].covers a = false

/-- R19, R163: the table while entry `i` of a profile block is judged: the entries at lower indices are loaded, the
others still invalid. -/
def RegionTable.below (entries : Vector RegionEntry 8) (i : Fin 8) : Vector RegionEntry 8 :=
  Vector.ofFn fun k => if k < i then entries[k] else RegionEntry.invalid

/-- R7: a valid entry follows none, or another valid RECORD entry that itself follows none. -/
def RegionTable.linked (entries : Vector RegionEntry 8) : Prop :=
  ∀ i t : Fin 8, entries[i].valid = true → entries[i].follows = some t →
    t ≠ i ∧ entries[t].valid = true ∧ entries[t].cls = .record ∧ entries[t].follows = none

/-- R18, R19: every entry is invalid from start-up until a load ends. -/
def State.tableEmptyUntilLoaded (s : State) : Prop :=
  s.ctrl.opState ∈ [OpState.starting, .recovering, .initload, .reloading, .locked] →
    ∀ i : Fin 8, s.table.entries[i] = RegionEntry.invalid

/-- R1, R2, R7, R18, R19: the region table is legal. -/
def State.tableLegal (s : State) : Prop :=
  (∀ i : Fin 8, s.table.entries[i].normal s.base) ∧ RegionTable.disjoint s.table.entries
    ∧ RegionTable.linked s.table.entries ∧ s.tableEmptyUntilLoaded

/-! ## The host port and FROZEN -/

/-- R21, R22, R23: ACCESS is the phase of the host's own access in flight, HOLDING the phase with a hold, the slot hold
applies to writes alone, and HD is driven only in the ANSWERED phase of a read. -/
def State.hostPortRight (s : State) : Prop :=
  (s.host.phase = .access ↔ ∃ a, s.port.inFlight = some a ∧ a.owner = .requester .host)
    ∧ (s.host.phase = .holding ↔ s.host.hold ≠ none)
    ∧ (s.host.hold = some .slot → s.host.kind = .write)
    ∧ (s.host.hd ≠ none ↔ s.host.phase = .answered ∧ s.host.kind = .read)

/-- R32, R154, R155: in FROZEN no access is in flight, the host port is IDLE and the management port BLOCKED. -/
def State.frozenQuiet (s : State) : Prop :=
  s.ctrl.opState = .frozen →
    s.port.inFlight = none ∧ s.host.phase = .idle ∧ s.mgmt.phase = .blocked

/-! ## The staging store (R42, R45, R46, R55, R57, R68, R91) -/

/-- The slots of the groups in the commit queue. -/
def Staging.queued (g : Staging) : List (Fin 8) :=
  g.queue.flatMap Group.slots

/-- The slots of the live entries. -/
def Journal.slots (g : Journal) : List (Fin 8) :=
  g.live.flatMap fun e => e.group.slots

/-- R55: a group holds one to four slots. -/
def Group.sized (g : Group) : Prop :=
  1 ≤ g.slots.length ∧ g.slots.length ≤ 4

/-- R42, R55, R56, R68, R91: every closed slot has exactly one place, given by its state. -/
def State.slotsOwned (s : State) : Prop :=
  (∀ i : Fin 8, (s.slot i).state = .queued ↔ i ∈ s.stage.queued)
    ∧ (∀ i : Fin 8, (s.slot i).state = .writing ↔ i ∈ s.writer.slots)
    ∧ (∀ i : Fin 8, (s.slot i).state = .logged ∨ (s.slot i).state = .applying ↔ i ∈ s.journal.slots)
    ∧ (∀ i t : Fin 8, (s.slot i).state = .held ∧ (s.slot i).waitsOn = some t ↔ i ∈ s.stage.held[t])
    ∧ (∀ i : Fin 8, (s.slot i).state = .held → (s.slot i).waitsOn ≠ none)
    ∧ s.stage.queued.Nodup ∧ s.writer.slots.Nodup ∧ s.journal.slots.Nodup
    ∧ (∀ t : Fin 8, s.stage.held[t].Nodup ∧ s.stage.held[t].length ≤ 3)

/-- R55, R107: groups hold one to four slots, and the Writer has a group exactly outside IDLE. -/
def State.groupsSized (s : State) : Prop :=
  (∀ g ∈ s.stage.queue, g.sized) ∧ (∀ e ∈ s.journal.live, e.group.sized)
    ∧ (∀ g, s.writer.group = some g → g.sized) ∧ (s.writer.phase = .idle ↔ s.writer.group = none)

/-- R45, R46, R57: FREE slots are cleared, a record has at most one FILLING slot, and the chain lists the live record
slots, each once. -/
def State.versionsRight (s : State) : Prop :=
  (∀ i : Fin 8, (s.slot i).state = .free → s.slot i = Slot.cleared (s.slot i).image)
    ∧ (∀ i j : Fin 8, (s.slot i).state = .filling → (s.slot j).state = .filling →
        (s.slot i).region = (s.slot j).region → (s.slot i).home = (s.slot j).home → i = j)
    ∧ (∀ i : Fin 8, i ∈ s.stage.chain ↔ (s.slot i).state ≠ .free ∧ (s.slot i).region ≠ .profile)
    ∧ s.stage.chain.Nodup

/-- R62, R129: no slot is live in the start-up states, in RELOADING and in LOCKED. -/
def State.freeOutsideRunning (s : State) : Prop :=
  s.ctrl.opState ∈ [OpState.starting, .recovering, .initload, .reloading, .locked] →
    ∀ i : Fin 8, (s.slot i).state = .free

/-- The staging store keeps all its rules. -/
def State.stagingRight (s : State) : Prop :=
  s.slotsOwned ∧ s.groupsSized ∧ s.versionsRight ∧ s.freeOutsideRunning

/-! ## The held span (R92, R93) -/

/-- R92, R93: head, tail and held count lie in 0 to J and the tail is the end of the held span. -/
def Journal.spanRight (g : Journal) (j : Nat) : Prop :=
  g.head ≤ j ∧ g.tail ≤ j ∧ g.held ≤ j ∧ (g.head + g.held) % j = g.tail % j

/-! ## Shapes that the statements share -/

/-- R138, but for the operating state, the host port and the management port: every volatile field as STARTING sets it,
by the straps that the state holds. -/
def State.volatileCleared (s : State) : Prop :=
  (∀ i : Fin 8, s.slot i = Slot.cleared (s.slot i).image) ∧ s.stage.openCounter = 0 ∧ s.stage.queue = []
    ∧ (∀ t : Fin 8, s.stage.held[t] = []) ∧ s.stage.chain = []
    ∧ (∀ i : Fin 8, s.table.entries[i] = RegionEntry.invalid)
    ∧ s.table.defaultClass = (if s.ctrl.straps.defro then .readonly else .openClass)
    ∧ s.table.mask = 0xFFFF
    ∧ s.journal.live = [] ∧ s.journal.tail = 0 ∧ s.journal.head = 0 ∧ s.journal.held = 0
    ∧ s.journal.nextWrite = 0 ∧ s.journal.nextApply = 0 ∧ s.journal.inUse = none
    ∧ s.writer.phase = .idle ∧ s.writer.retry = 0 ∧ s.writer.group = none
    ∧ s.applier.phase = .idle ∧ s.applier.retry = 0
    ∧ s.port.lastGranted = .applier
    ∧ s.events.queue = [] ∧ s.events.serial = 0 ∧ s.events.alert = false
    ∧ s.ctrl.report = RecoveryReport.cleared s.ctrl.straps ∧ s.ctrl.report.unread = false
    ∧ s.ctrl.cause = .noCause ∧ s.ctrl.lastCount = 0

/-- R155: memory holds what it held, but for the byte of a write in flight. -/
def State.memoryKept (s t : State) : Prop :=
  ∀ a : Nat, (∀ x b, s.port.inFlight = some x → x.op = .write b → x.addr ≠ a) →
    t.mem.read a = s.mem.read a

/-- The access in flight, if any, names an address of the memory. -/
def State.inMemory (s : State) : Prop :=
  ∀ a, s.port.inFlight = some a → a.addr < memorySize s.ctrl.straps

/-- No access for the host path begins between two states of the memory port. -/
def MemPort.sparesHost (p q : MemPort) : Prop :=
  ∀ a, q.inFlight = some a → a.owner = .requester .host → p.inFlight = some a

/-- R43, R46: slot `i` is the one that takes a byte of the record of `r`: its FILLING slot, or without one the lowest
FREE slot. -/
def State.takesByte (s : State) (r : RecordRef) (i : Fin 8) : Prop :=
  ((s.slot i).state = .filling ∧ (s.slot i).ofRecord r.region r.home = true)
    ∨ ((∀ k : Fin 8, (s.slot k).state = .filling → (s.slot k).ofRecord r.region r.home = false)
        ∧ (s.slot i).state = .free ∧ ∀ k : Fin 8, k < i → (s.slot k).state ≠ .free)

/-- R44: a slot as its allocation for `r` leaves it, or the FILLING slot itself. -/
def State.takerBefore (s : State) (r : RecordRef) (i : Fin 8) : Slot :=
  if (s.slot i).state = .filling then
    s.slot i
  else
    { state := .filling, region := .entry r.region, home := some r.home, length := r.length,
      image := (s.slot i).image, written := 0, openNumber := s.stage.openCounter, waitsOn := none,
      group := none }

/-- R47: a slot with a byte stored at an offset: IMAGE holds it there, its WRITTEN bit is set, all else is kept. -/
def Slot.holdsAlso (x y : Slot) (offset : Nat) (b : Byte) : Prop :=
  y.byte offset = b ∧ y.written = x.written ||| BitVec.twoPow 128 offset
    ∧ (∀ k, k ≠ offset → y.byte k = x.byte k)
    ∧ y.state = x.state ∧ y.region = x.region ∧ y.home = x.home ∧ y.length = x.length
    ∧ y.openNumber = x.openNumber ∧ y.waitsOn = x.waitsOn ∧ y.group = x.group

/-- R43, R57: the open counter and the chain after slot `i` took a byte. -/
def State.allocationCounted (s : State) (i : Fin 8) (g : Staging) : Prop :=
  g.openCounter = (if (s.slot i).state = .filling then s.stage.openCounter else s.stage.openCounter + 1)
    ∧ g.chain = (if (s.slot i).state = .filling then s.stage.chain else s.stage.chain ++ [i])

/-- R23: a write is held in RUNNING for want of a FREE slot. -/
def State.holdsForSlot (s : State) : Prop :=
  s.ctrl.opState = .running ∧ s.host.phase = .holding ∧ s.host.hold = some .slot ∧ s.host.kind = .write

/-- R52: from `s` to `t` the write in the slot hold has ended its hold. If its address lies in a record without a FILLING
slot, it is answered, and its byte lies in the lowest of the slots in `free`, allocated for that record. -/
def State.heldWriteServed (s t : State) (free : Fin 8 → Prop) : Prop :=
  t.host.hold = none ∧ t.host.phase ≠ .holding
    ∧ ∀ r : RecordRef, (s.lookup s.host.addr.toNat).ref = some r → r.offset < 128 →
      (∀ k : Fin 8, (s.slot k).state = .filling → (s.slot k).ofRecord r.region r.home = false) →
        t.host.phase = .answered
          ∧ ∃ i : Fin 8, free i ∧ (∀ k : Fin 8, k < i → ¬free k)
            ∧ (t.slot i).region = .entry r.region ∧ (t.slot i).home = some r.home
            ∧ (t.slot i).openNumber = s.stage.openCounter
            ∧ (t.slot i).byte r.offset = s.host.data ∧ (t.slot i).written.getLsbD r.offset = true

/-- R57, R109: slot `j` is a live slot of the record of slot `i` and holds offset `k`. -/
def Staging.versionHolds (g : Staging) (i j : Fin 8) (k : Nat) : Prop :=
  g.slots[j].state ≠ .free ∧ g.slots[j].region = g.slots[i].region ∧ g.slots[j].home = g.slots[i].home
    ∧ g.slots[j].written.getLsbD k = true

/-- R109: `j` is the next older version of the record of `i`, walking the chain from `i` toward the oldest, that holds
offset `k`. -/
def Staging.nextOlder (g : Staging) (i j : Fin 8) (k : Nat) : Prop :=
  ∃ older between newer : List (Fin 8), g.chain = older ++ j :: between ++ i :: newer
    ∧ i ∉ older ++ j :: between ∧ g.versionHolds i j k ∧ ∀ x ∈ between, ¬g.versionHolds i x k

/-- R36: the byte that a completed access with a good answer gives its requester. -/
def State.accessByte (s : State) (a : Access) : Byte :=
  match a.op with
  | .read => s.mem.read a.addr
  | .write b => b

/-- R36: the state in which a completed access with a good answer leaves the port and the memory. -/
def State.accessDone (s : State) (a : Access) : State :=
  (s.setPort { s.port with inFlight := none }).setMem
    (match a.op with
      | .read => s.mem
      | .write b => s.mem.write a.addr b)

/-- R163: the events of the load of a good block, in order: PROFILE_BAD DEFAULT for a code that is no default class,
PROFILE_BAD ENTRY with the failing check for each entry stored valid that is rejected, and PROFILE_LOADED with the number
of valid entries. `entries` is the table that the load leaves. -/
def State.loadEvents (s : State) (bs : List Byte) (entries : Vector RegionEntry 8) : List EventReport :=
  (if (defaultClassOfCode (byteAt bs 3)).isNone then
      [{ kind := .profileBad, detail := 0x02, region := none, address := some (toAddr (s.base + 35)), count := 0 }]
    else [])
    ++ (indices8.filterMap fun i =>
      let e := rawEntry (entryBytesAt bs (8 + 8 * i.val))
      if e.valid then
        (e.firstFailing (RegionTable.below entries i) s.base i).map fun n =>
          { kind := .profileBad, detail := 0x01, region := some i,
            address := some (toAddr (s.base + 40 + 8 * i.val)), count := BitVec.ofNat 8 n }
      else none)
    ++ [{ kind := .profileLoaded,
          detail := BitVec.ofNat 8 (indices8.countP fun i => entries[i].valid),
          region := none, address := some (toAddr (s.base + 32)), count := byteAt bs 2 }]

/-- R21: the host port after the answer to a write. -/
def HostPort.answeredWrite (h : HostPort) : Prop :=
  h.phase = .answered ∧ h.hd = none ∧ h.hold = none

/-- R189: the port shifts out this status and these response bytes. -/
def MgmtPort.answers (m : MgmtPort) (st : Byte) (response : List Byte) : Prop :=
  m.phase = .result ∧ m.status = st ∧ m.response = response

end Sys2Proof.Machine
end

