-- ==== Sys2Proof/Certificates/Slice0/Obligations.lean ====
section
/-! DEFINITION. The statements for the provers, from the spec's numbered rules. A statement of the shape
"there are h, p, … with exec c s = next ((s.setHost h).setPort p) …" says at once that the command completes, what it
does, and that every field of the state not named there is unchanged. A next state written with `.grant` is that state
after the arbiter's next grant, which changes the ports alone (ArbiterGrantsInRotation says how in RUNNING). One written
with `.grantBy ord` is that too, but where `ord` lets an engine's take that is next in the queue post its request first,
it is the state itself: the take then makes the grant (log 8). -/

open Sys2Proof Sys2Proof.Machine

/-! ## The step and reset -/

/-- A step takes the command at the front of the queue and runs exec on it with the queue's rest. -/
def Obligations.StepRunsFrontCommand : Prop :=
  ∀ (c : Instr) (rest : List Instr) (s : State),
    s.pending = c :: rest → step s = exec c (s.setPending rest)

/-- R133, R135, R138, R151, R186: what reset leaves, for every field to which the spec gives a value, and that the invariants
below hold there. That the supply is present, SCS# high and the straps low at reset is the model's choice (log 1, log 2). -/
def Obligations.ResetHoldsSpecValues : Prop :=
  State.reset.ctrl.opState = .starting ∧ State.reset.ctrl.hrsto = true ∧ State.reset.volatileCleared
    ∧ State.reset.port.inFlight = none ∧ State.reset.mgmt.phase = .idle ∧ State.reset.host.ready = true
    ∧ State.reset.host.phase = .idle ∧ State.reset.host.hd = none
    ∧ State.reset.mgmt.sdo = .highImpedance
    ∧ Memory.wf State.reset.mem = true ∧ State.reset.events.bounded ∧ State.reset.events.serialsRise
    ∧ State.reset.alertRight ∧ State.reset.hrstoRight ∧ State.reset.causeRight ∧ State.reset.tableLegal
    ∧ State.reset.hostPortRight ∧ State.reset.frozenQuiet ∧ State.reset.stagingRight

/-! ## Invariants that every step keeps -/

/-- R2: every step keeps the region table legal, so no address lies in two valid entries and none reaches H. -/
def Obligations.RegionTableStaysLegal : Prop :=
  (∀ (s t : State), step s = .next t → s.tableLegal → t.tableLegal)
    ∧ ∀ s : State, s.tableLegal →
        (∀ i : Fin 8, s.table.entries[i].valid = true →
          s.table.entries[i].base.toNat ≤ s.table.entries[i].limit.toNat
            ∧ s.table.entries[i].limit.toNat < s.base)
        ∧ ∀ (a : Nat) (i j : Fin 8),
            s.table.entries[i].covers a = true → s.table.entries[j].covers a = true → i = j

/-- R176, R177, R178, R182: every step keeps the queue within 16 records with at most one OVERFLOW, one whenever there are 16,
keeps the serials rising by 1, and keeps ALERT# at the level of the queue and the mask. -/
def Obligations.EventBlockKeepsItsRules : Prop :=
  (∀ (s t : State), step s = .next t → s.events.bounded → s.events.serialsRise →
      t.events.bounded ∧ t.events.serialsRise)
    ∧ (∀ (s t : State), step s = .next t → s.alertRight → t.alertRight)

/-- R135: HRSTO# is asserted exactly in STARTING, RECOVERING, INITLOAD and FROZEN: every step keeps it so, and SRST# has
no effect on it. -/
def Obligations.HrstoFollowsOperatingState : Prop :=
  (∀ (s t : State), step s = .next t → s.hrstoRight → t.hrstoRight)
    ∧ ∀ (s t : State), exec .hostReset s = .next t ∨ exec .hostResetRelease s = .next t →
        t.ctrl.hrsto = s.ctrl.hrsto

/-- R134, R136: the operating state changes only as `OpState.mayBecome` lists, command by command: the changes of R134's
table, and two that are the model's choice: SUPPLY_LOSS leads to STARTING (log 16), and POWER_UP is taken in STARTING
with the supply present (log 1). The FAULTED cause stays one of the three in FAULTED and none outside FAULTED and
FROZEN. -/
def Obligations.OperatingStateChangesAsListed : Prop :=
  (∀ (c : Instr) (s t : State), exec c s = .next t →
      t.ctrl.opState = s.ctrl.opState ∨ OpState.mayBecome c s.ctrl.opState t.ctrl.opState)
    ∧ ∀ (c : Instr) (s t : State), exec c s = .next t → s.causeRight → t.causeRight

/-- R21, R22, R23, R155: every step keeps the host port's phase in accord with the port and the hold, and FROZEN
quiet. -/
def Obligations.HostPortAndFrozenStayRight : Prop :=
  (∀ (s t : State), step s = .next t → s.hostPortRight → t.hostPortRight)
    ∧ ∀ (s t : State), step s = .next t → s.frozenQuiet → t.frozenQuiet

/-- R42, R45, R46, R55, R57, R62, R68, R91: every step keeps the staging store's rules: every closed slot stands in
exactly one place, groups hold one to four slots, held lists at most three, a record has at most one FILLING slot, and
FREE slots are cleared. -/
def Obligations.StagingStoreStaysRight : Prop :=
  ∀ (s t : State), step s = .next t → s.stagingRight → t.stagingRight

/-- R36: no command changes memory but by the write in flight; and every step keeps the memory's canonical form (the model's
own form of a memory). -/
def Obligations.MemoryChangesOnlyByWriteInFlight : Prop :=
  (∀ (c : Instr) (s t : State), exec c s = .next t → s.memoryKept t)
    ∧ (∀ (s t : State), step s = .next t → Memory.wf s.mem = true → Memory.wf t.mem = true)

/-- R114: the Writer enters MARK only when the last readback of VERIFY has compared equal. -/
def Obligations.MarkOnlyAfterVerify : Prop :=
  ∀ (c : Instr) (s t : State), exec c s = .next t → s.writer.phase ≠ .mark → t.writer.phase = .mark →
    ∃ (ans : MemAnswer) (ord : Order) (a : Access) (s' : State) (b : Byte) (m : MemStep),
      c = .memoryAccessComplete ans ord ∧ s.port.inFlight = some a ∧ a.owner = .requester .writer
        ∧ s.writer.phase = .verify ∧ s.completeAccess a ans = some (s', b)
        ∧ s.writerVerifies[s.writer.idx]? = some m ∧ s.writer.idx + 1 = s.writerVerifies.length
        ∧ b = m.byte

/-- R37, R101, R112: the Writer asks for no write below journal offset 0 (so it spares the homes, the anchors and the
profile block), and an anchor write, which the Applier or recovery makes, writes no byte of the copy in use. Nothing is
said of an upper bound of the Writer's addresses, nor of the Applier's writes to home. -/
def Obligations.WriterSparesHomesAndAnchorWriteSparesCopyInUse : Prop :=
  (∀ (s : State) (a : Access) (b : Byte), s.writerWants = some a → a.op = .write b → s.base + 128 ≤ a.addr)
    ∧ ∀ (s : State) (c : AnchorCopy) (p l : Nat) (next : Word16) (m : MemStep),
        s.journal.inUse = some c → m ∈ s.anchorProgram p l next →
          ∀ k, k < 16 → m.addr ≠ anchorBase s.ctrl.straps c + k

/-! ## Encodings -/

/-- R1, R16, R208: an entry in the form the table keeps reads back from its eight bytes. -/
def Obligations.RegionEntryReadsBack : Prop :=
  ∀ (e : RegionEntry) (base : Nat), e.normal base →
    (encodeEntry e).length = 8 ∧ (rawEntry (entryBytesAt (encodeEntry e) 0)).stored = e

/-- R99, R100, R209: a written anchor copy reads back, one without the anchor mark does not, and the copy in use is
chosen by the table of R100. -/
def Obligations.AnchorCopiesReadBackAndChoose : Prop :=
  (∀ (t : Straps) (g n : Word16) (h : Nat), h ≤ journalSize t →
      (anchorBody g h n).length = 15
        ∧ readAnchor t (0x4C :: anchorBody g h n) = some { generation := g, head := h, next := n })
    ∧ (∀ (t : Straps) (b : Byte) (bs : List Byte), b ≠ 0x4C → readAnchor t (b :: bs) = none)
    ∧ ∀ a b : AnchorRecord,
        chooseAnchor none none = none ∧ chooseAnchor (some a) none = some (.a, a)
          ∧ chooseAnchor none (some b) = some (.b, b)
          ∧ ((b.generation - a.generation).toNat ∈ Set.Icc 1 32767 →
              chooseAnchor (some a) (some b) = some (.b, b))
          ∧ ((b.generation - a.generation).toNat ∉ Set.Icc 1 32767 →
              chooseAnchor (some a) (some b) = some (.a, a))

/-- R84, R89, R90, 12.3: the entry that the Writer writes is well-formed for its sequence number and gives its segments
back to recovery, whatever its mark. -/
def Obligations.WrittenEntryIsWellFormed : Prop :=
  ∀ (t : Straps) (mark : Byte) (seq : Word16) (segs : List Segment) (p : Nat),
    1 ≤ segs.length → segs.length ≤ 4 →
    (∀ g ∈ segs, 1 ≤ g.data.length ∧ g.data.length ≤ 128 ∧ g.home < 2 ^ 24 ∧ segmentInRange t g = true) →
    p + entryLength (segs.map fun g => g.data.length) ≤ journalSize t →
      let body := segs.flatMap fun g => segmentBytes g.home g.data
      let l := entryLength (segs.map fun g => g.data.length)
      wellFormedEntry t (mark :: entryTail seq segs.length l (entryCheck seq segs.length l body) body) p seq
        = some segs

/-- R159, R162, R163, R167: a profile image is 72 bytes, good, and reads back its store count, default class, mask and
entries. -/
def Obligations.ProfileImageReadsBack : Prop :=
  ∀ (count mask : Word16) (d : DefaultClass) (entries : Vector RegionEntry 8) (base : Nat),
    (∀ i : Fin 8, entries[i].normal base) →
      let bs := profileImage count d mask entries
      bs.length = 72 ∧ profileGood bs = true ∧ wordAt bs 1 = count
        ∧ defaultClassOfCode (byteAt bs 3) = some d ∧ wordAt bs 4 = mask
        ∧ ∀ i : Fin 8, (rawEntry (entryBytesAt bs (8 + 8 * i.val))).stored = entries[i]

/-- R85: the length of an entry. -/
def Obligations.EntryLengthIsBounded : Prop :=
  (∀ lengths : List Nat, entryLength lengths = 8 + (lengths.map fun n => 4 + n).sum)
    ∧ (∀ lengths : List Nat, 1 ≤ lengths.length → lengths.length ≤ 4 → (∀ n ∈ lengths, 2 ≤ n ∧ n ≤ 128) →
        14 ≤ entryLength lengths ∧ entryLength lengths ≤ 536)
    ∧ entryLength [2] = 14 ∧ entryLength [16] = 28 ∧ entryLength [72] = 84 ∧ entryLength [128] = 140
    ∧ entryLength [8, 8, 8, 32] = 80
    ∧ entryLength [128, 128, 128, 128] = 536
    ∧ (∀ t : Straps, 2048 ≤ journalSize t)
    ∧ ∀ (s t : State), s.writer.phase = .place → exec .writerPlace s = .next t →
        t.writer.length = s.writer.length

/-- R83: where a journal offset lies in memory. -/
def Obligations.JournalLiesAtTopOfMemory : Prop :=
  (∀ (s : State) (o : Nat), s.journalAddr o = s.base + 128 + o)
    ∧ (∀ s : State, s.journalAddr 0 + s.journalLength = memorySize s.ctrl.straps
        ∧ s.journalAddr (s.journalLength - 1) = memorySize s.ctrl.straps - 1)
    ∧ ∀ s : State, s.ctrl.straps.msz = 1 → s.ctrl.straps.jsz = 0 →
        s.journalAddr 0 = 0x1F800 ∧ s.journalAddr 0x7FF = 0x1FFFF

/-! ## Supply, PFAIL# and SRST# -/

/-- R23, R134, R135, R137, R138, R155, R186: POWER_UP samples the straps, clears the volatile state and enters RECOVERING
with the read of anchor copy A in flight, or FROZEN with PFAIL# asserted; a loss of supply takes everything but the memory
and the pins. That POWER_UP acts so in STARTING too, with the supply present, is the model's choice (log 1); there it keeps
a cycle held in STARTING (R23) and the transaction in progress. That the lost fields are stored as STARTING will set them
is the model's choice as well (log 16). -/
def Obligations.SupplyChangesClearVolatileState : Prop :=
  (∀ (straps : Straps) (s : State), s.supply = false ∨ s.ctrl.opState = .starting →
    ∃ t, exec (.powerUp straps) s = .next t
      ∧ t.supply = true ∧ t.ctrl.straps = straps ∧ t.volatileCleared ∧ t.ctrl.hrsto = true
      ∧ t.mem = s.mem ∧ t.pins = s.pins ∧ t.pending = s.pending
      ∧ (s.supply = false ∨ s.pins.pfail = true ∨ s.host.phase ≠ .holding → t.host = HostPort.idle)
      ∧ (s.supply = true → s.pins.pfail = false → s.host.phase = .holding → t.host = s.host)
      ∧ (s.pins.pfail = false →
          t.ctrl.opState = .recovering ∧ t.ctrl.startCause = .powerup
            ∧ t.port.inFlight = some { owner := .system, addr := hiddenBase straps, op := .read }
            ∧ (s.supply = false → t.mgmt.phase = (if s.pins.scsLow then .blocked else .idle))
            ∧ (s.supply = true → t.mgmt = s.mgmt))
      ∧ (s.pins.pfail = true →
          t.ctrl.opState = .frozen ∧ t.port.inFlight = none ∧ t.mgmt.phase = .blocked))
    ∧ ∀ (ans : MemAnswer) (s : State), s.supply = true → s.inMemory →
      ∃ t, exec (.supplyLoss ans) s = .next t
        ∧ t.supply = false ∧ t.volatileCleared ∧ t.host = HostPort.idle ∧ t.port.inFlight = none
        ∧ s.memoryKept t
        ∧ t.pins = s.pins ∧ t.pending = s.pending

/-- R32, R40, R64, R135, R154, R155: PFAIL# lets the access in flight complete and enters FROZEN with everything else
kept; in STARTING the clearing is completed first (R138). -/
def Obligations.PfailAssertFreezes : Prop :=
  (∀ (ans : MemAnswer) (s : State), s.supply = true → s.ctrl.opState ≠ .frozen → s.ctrl.opState ≠ .starting →
      s.inMemory →
      ∃ t, exec (.pfailAssert ans) s = .next t
        ∧ t.ctrl.opState = .frozen ∧ t.ctrl.hrsto = true ∧ t.ctrl.interrupted = s.ctrl.opState
        ∧ t.pins = { s.pins with pfail := true } ∧ t.port = { s.port with inFlight := none }
        ∧ t.host = HostPort.idle ∧ t.mgmt.phase = .blocked
        ∧ t.stage = s.stage ∧ t.journal = s.journal ∧ t.writer = s.writer ∧ t.applier = s.applier
        ∧ t.table = s.table ∧ t.events = s.events ∧ t.ctrl.report = s.ctrl.report
        ∧ t.ctrl.straps = s.ctrl.straps ∧ t.pending = s.pending ∧ s.memoryKept t
        ∧ ∀ a b, s.port.inFlight = some a → a.op = .write b → ans = .ok → t.mem = s.mem.write a.addr b)
    ∧ ∀ (ans : MemAnswer) (s : State), s.supply = true → s.ctrl.opState = .starting → s.port.inFlight = none →
        ∃ t, exec (.pfailAssert ans) s = .next t
          ∧ t.ctrl.opState = .frozen ∧ t.volatileCleared ∧ t.host = HostPort.idle ∧ t.mem = s.mem

/-- R156, R186, R202: what the PFAIL restart clears and keeps, the PFAIL_RESTART event, and the entry to RECOVERING. -/
def Obligations.PfailRestartClearsAndKeeps : Prop :=
  ∀ s : State, s.supply = true → s.ctrl.opState = .frozen → s.port.inFlight = none →
    ∃ t, exec .pfailRestart s = .next t
      ∧ t.ctrl.opState = .recovering ∧ t.ctrl.hrsto = true ∧ t.ctrl.startCause = .pfail
      ∧ (∀ i : Fin 8, t.slot i = Slot.cleared (s.slot i).image) ∧ t.stage.openCounter = 0
      ∧ t.stage.queue = [] ∧ (∀ i : Fin 8, t.stage.held[i] = [])
      ∧ (∀ i : Fin 8, t.table.entries[i] = RegionEntry.invalid)
      ∧ t.table.defaultClass = (if s.ctrl.straps.defro then .readonly else .openClass)
      ∧ t.table.mask = s.table.mask
      ∧ t.journal.live = [] ∧ t.journal.tail = 0 ∧ t.journal.head = 0 ∧ t.journal.held = 0
      ∧ t.journal.nextWrite = 0 ∧ t.journal.nextApply = 0 ∧ t.journal.inUse = none
      ∧ t.writer = Writer.idle ∧ t.applier = Applier.idle ∧ t.host = HostPort.idle
      ∧ t.port = { inFlight := some { owner := .system, addr := s.base, op := .read }, lastGranted := .applier }
      ∧ t.mgmt.phase = (if s.pins.scsLow then .blocked else .idle)
      ∧ t.ctrl.cause = .noCause ∧ t.ctrl.lastCount = 0
      ∧ t.ctrl.report = s.ctrl.report ∧ t.ctrl.straps = s.ctrl.straps
      ∧ t.events = (s.events.arrive
          { kind := .pfailRestart, detail := s.ctrl.interrupted.code, region := none, address := none,
            count := BitVec.ofNat 8 (8 - s.stage.count .free) }).evaluate s.table.mask
      ∧ t.mem = s.mem ∧ t.pins = { s.pins with pfail := false } ∧ t.pending = s.pending

/-- R24, R45, R57, R61, R62, R79, R155, R158: SRST# in RUNNING or FAULTED frees every FILLING and HELD slot, logs one SLOTS_DISCARDED for
them, ends the host cycle by its phase, and leaves all else as it was. Elsewhere it acts on the host port alone, and not
even on that in FROZEN. Its release changes the pin alone. -/
def Obligations.HostResetActsByState : Prop :=
  (∀ s : State, s.supply = true → s.pins.srst = false → s.ctrl.opState ∈ [OpState.running, .faulted] →
      ∃ g e, exec .hostReset s = .next ((((s.setPins { s.pins with srst := true }).setHost
            (if s.host.phase = .access then { s.host with fate := .abandoned } else HostPort.idle)).setStage
              g).setEvents e)
        ∧ (∀ i : Fin 8, (s.slot i).state ∈ [SlotState.filling, .held] → g.slots[i] = Slot.cleared (s.slot i).image)
        ∧ (∀ i : Fin 8, (s.slot i).state ∉ [SlotState.filling, .held] → g.slots[i] = s.slot i)
        ∧ (∀ t : Fin 8, g.held[t] = []) ∧ g.queue = s.stage.queue ∧ g.openCounter = s.stage.openCounter
        ∧ g.chain = s.stage.chain.filter (fun i => decide ((s.slot i).state ∉ [SlotState.filling, .held]))
        ∧ (s.stage.count .filling = 0 → s.stage.count .held = 0 → e = s.events)
        ∧ (s.stage.count .filling ≠ 0 ∨ s.stage.count .held ≠ 0 →
            e = (s.events.arrive
              { kind := .slotsDiscarded, detail := BitVec.ofNat 8 (s.stage.count .filling), region := none,
                address := none, count := BitVec.ofNat 8 (s.stage.count .held) }).evaluate s.table.mask))
    ∧ ((∀ s : State, s.supply = true → s.pins.srst = false →
        s.ctrl.opState ∈ [OpState.starting, .recovering, .initload, .reloading, .locked] →
        exec .hostReset s = .next ((s.setPins { s.pins with srst := true }).setHost
          (if s.host.phase = .access then { s.host with fate := .abandoned } else HostPort.idle)))
      ∧ (∀ s : State, s.supply = true → s.ctrl.opState = .frozen →
          exec .hostReset s = .next (s.setPins { s.pins with srst := true }))
      ∧ ∀ s : State, exec .hostResetRelease s = .next (s.setPins { s.pins with srst := false }))

/-! ## Host cycles -/

/-- R20, R21, R24, R54, R155: no cycle is taken without HSEL# and exactly one strobe, in a busy port, while SRST# is asserted,
or in FROZEN; the end of an answered cycle returns the port to IDLE; a held cycle that is withdrawn is discarded; one that
waits for memory or is in its access runs on unanswered. -/
def Obligations.CyclesBeginAndEnd : Prop :=
  (∀ (sel rd wr : Bool) (addr : Addr) (data : Byte) (s : State),
      sel = false ∨ rd = wr ∨ s.host.phase ≠ .idle ∨ s.pins.srst = true ∨ s.ctrl.opState = .frozen →
        exec (.hostCycle sel rd wr addr data) s = .next s)
    ∧ ((∀ s : State, s.supply = true → s.host.phase = .answered →
        exec .hostCycleEnd s = .next (s.setHost HostPort.idle))
      ∧ (∀ s : State, s.supply = true → s.host.phase = .holding →
          exec .hostCycleWithdrawn s = .next (s.setHost HostPort.idle))
      ∧ ∀ s : State, s.supply = true → s.host.phase ∈ [HostPhase.waiting, .access] → s.host.fate = .awaited →
          exec .hostCycleWithdrawn s = .next (s.setHost { s.host with fate := .withdrawn }))

/-- R5, R6, R8: the lookup takes the first case that holds, and a RECORD result carries the record reference. -/
def Obligations.LookupTakesFirstCase : Prop :=
  ∀ (s : State) (a : Nat), s.tableLegal →
    (memorySize s.ctrl.straps ≤ a → s.lookup a = { cls := .beyond, region := none, ref := none })
      ∧ (s.base ≤ a → a < memorySize s.ctrl.straps →
          s.lookup a = { cls := .hidden, region := none, ref := none })
      ∧ (a < s.base → (∀ i : Fin 8, s.table.entries[i].covers a = false) →
          s.lookup a = { cls := s.table.defaultClass.addrClass, region := none, ref := none })
      ∧ ∀ i : Fin 8, s.table.entries[i].covers a = true →
          (s.lookup a).cls = s.table.entries[i].cls.addrClass ∧ (s.lookup a).region = some i
            ∧ (s.table.entries[i].cls ≠ .record → (s.lookup a).ref = none)
            ∧ (s.table.entries[i].cls = .record →
                ∃ r, (s.lookup a).ref = some r ∧ r.region = i
                  ∧ r.offset = (a - s.table.entries[i].base.toNat) % s.table.entries[i].rsize
                  ∧ r.home.toNat + r.offset = a ∧ r.length = s.table.entries[i].rsize
                  ∧ (r.isCommit = true ↔ r.offset = s.table.entries[i].commit)
                  ∧ r.follows = s.table.entries[i].follows
                  ∧ (r.isTrigger = true ↔ ∃ k : Fin 8, s.table.entries[k].valid = true
                      ∧ s.table.entries[k].follows = some i))

/-- R20, R22, R25, R26, R29, R37: an OPEN cycle and a READONLY read post a request for the captured address, in LOCKED
without a format reads alone; with a free port and no engine waiting it is granted at once. -/
def Obligations.OpenCycleGoesToMemory : Prop :=
  ∀ (rd : Bool) (addr : Addr) (data : Byte) (s : State), s.takesCycles = true →
    (s.ctrl.opState ∈ [OpState.running, .faulted]
      ∨ (s.ctrl.opState = .locked ∧ s.ctrl.format = none ∧ rd = true)) →
    ((s.lookup addr.toNat).cls = .openClass ∨ ((s.lookup addr.toNat).cls = .readonly ∧ rd = true)) →
      ∃ h p, exec (.hostCycle true rd (!rd) addr data) s = .next ((s.setHost h).setPort p)
        ∧ h.kind = (if rd then .read else .write) ∧ h.addr = addr ∧ h.data = data ∧ h.fate = .awaited
        ∧ h.hd = none ∧ h.hold = none
        ∧ (s.port.inFlight ≠ none → h.phase = .waiting ∧ p = s.port)
        ∧ (s.port.inFlight = none → s.writerWants = none → s.applierWants = none →
            h.phase = .access ∧ p.lastGranted = .host ∧ p.inFlight = some
              { owner := .requester .host, addr := addr.toNat, op := (if rd then .read else .write data) })

/-- R26, R29, R30, R34: a write refused with WRITE_DENIED makes no access, changes no slot and is answered: a READONLY write
in RUNNING and FAULTED, every write in LOCKED, a RECORD write in FAULTED. -/
def Obligations.WritesAreDeniedByClassAndState : Prop :=
  (∀ (addr : Addr) (data : Byte) (s : State), s.takesCycles = true →
      s.ctrl.opState ∈ [OpState.running, .faulted] → (s.lookup addr.toNat).cls = .readonly →
        ∃ h p, exec (.hostCycle true false true addr data) s = .next (((s.setHost h).setPort p).setEvents
            ((s.events.arrive
              { kind := .writeDenied, detail := 0x00, region := (s.lookup addr.toNat).region,
                address := some addr, count := 0 }).evaluate s.table.mask))
          ∧ h.answeredWrite ∧ s.port.sparesHost p)
    ∧ ((∀ (addr : Addr) (data : Byte) (s : State), s.takesCycles = true →
        s.ctrl.opState = .locked → s.ctrl.format = none →
        ∃ h p, exec (.hostCycle true false true addr data) s = .next (((s.setHost h).setPort p).setEvents
            ((s.events.arrive
              { kind := .writeDenied, detail := 0x01, region := none, address := some addr,
                count := 0 }).evaluate s.table.mask))
          ∧ h.answeredWrite ∧ s.port.sparesHost p)
      ∧ ∀ (addr : Addr) (data : Byte) (s : State), s.takesCycles = true →
          s.ctrl.opState = .faulted → (s.lookup addr.toNat).cls = .record →
          ∃ h p, exec (.hostCycle true false true addr data) s = .next (((s.setHost h).setPort p).setEvents
              ((s.events.arrive
                { kind := .writeDenied, detail := 0x02, region := (s.lookup addr.toNat).region,
                  address := some addr, count := 0 }).evaluate s.table.mask))
            ∧ h.answeredWrite ∧ s.port.sparesHost p)

/-- R27, R29, R35: a hidden or beyond cycle makes no access, is answered at once, a read with FFh, and is logged as
HIDDEN_ACCESS: in RUNNING and FAULTED, and for reads in LOCKED. -/
def Obligations.HiddenCycleIsAnsweredAtOnce : Prop :=
  ∀ (rd : Bool) (addr : Addr) (data : Byte) (s : State), s.takesCycles = true →
    (s.ctrl.opState ∈ [OpState.running, .faulted]
      ∨ (s.ctrl.opState = .locked ∧ s.ctrl.format = none ∧ rd = true)) →
    s.base ≤ addr.toNat →
      ∃ h p, exec (.hostCycle true rd (!rd) addr data) s = .next (((s.setHost h).setPort p).setEvents
          ((s.events.arrive
            { kind := .hiddenAccess,
              detail := (if memorySize s.ctrl.straps ≤ addr.toNat then 0x02 else 0x00) + (if rd then 0 else 1),
              region := none, address := some addr, count := 0 }).evaluate s.table.mask))
        ∧ h.phase = .answered ∧ h.hd = (if rd then some 0xFF else none) ∧ s.port.sparesHost p

/-- R23, R29, R31: a cycle taken in the start-up states, in RELOADING, or during a commanded format is held, with no
event and no request. -/
def Obligations.CyclesAreHeldDuringStartUpAndLoad : Prop :=
  ∀ (rd : Bool) (addr : Addr) (data : Byte) (s : State), s.takesCycles = true →
    (s.ctrl.opState ∈ [OpState.starting, .recovering, .initload, .reloading]
      ∨ (s.ctrl.opState = .locked ∧ s.ctrl.format ≠ none)) →
      ∃ h p, exec (.hostCycle true rd (!rd) addr data) s = .next ((s.setHost h).setPort p)
        ∧ h.phase = .holding ∧ h.kind = (if rd then .read else .write) ∧ h.addr = addr ∧ h.data = data
        ∧ h.hold = some
            (if s.ctrl.opState ∈ [OpState.starting, .recovering, .initload] then .startUp else .reload)
        ∧ s.port.sparesHost p

/-- R57, R58, R60: a RECORD read in RUNNING or FAULTED is answered from the newest live slot of the record that holds the
byte, and without one goes to memory. -/
def Obligations.RecordReadFindsNewestByte : Prop :=
  ∀ (addr : Addr) (data : Byte) (s : State) (r : RecordRef), s.takesCycles = true →
    s.ctrl.opState ∈ [OpState.running, .faulted] → (s.lookup addr.toNat).cls = .record →
    (s.lookup addr.toNat).ref = some r →
      (∀ (older newer : List (Fin 8)) (i : Fin 8), s.stage.chain = older ++ i :: newer →
          (s.slot i).ofRecord r.region r.home = true → (s.slot i).written.getLsbD r.offset = true →
          (∀ k ∈ newer, (s.slot k).ofRecord r.region r.home = true →
            (s.slot k).written.getLsbD r.offset = false) →
          ∃ h p, exec (.hostCycle true true false addr data) s = .next ((s.setHost h).setPort p)
            ∧ h.phase = .answered ∧ h.hd = some ((s.slot i).byte r.offset) ∧ s.port.sparesHost p)
        ∧ ((∀ k ∈ s.stage.chain, (s.slot k).ofRecord r.region r.home = true →
              (s.slot k).written.getLsbD r.offset = false) →
          ∃ h p, exec (.hostCycle true true false addr data) s = .next ((s.setHost h).setPort p)
            ∧ h.kind = .read ∧ h.addr = addr ∧ h.fate = .awaited
            ∧ (h.phase = .waiting ∨ h.phase = .access)
            ∧ (h.phase = .access → p.inFlight = some
                { owner := .requester .host, addr := addr.toNat, op := .read })
            ∧ (s.port.inFlight ≠ none → h.phase = .waiting ∧ p = s.port))

/-- R43, R44, R46, R47: a RECORD write of a byte other than the commit byte goes into the record's FILLING slot, or into
the lowest FREE slot, allocated for it; the write is answered and logs nothing. -/
def Obligations.RecordWriteStoresByte : Prop :=
  ∀ (addr : Addr) (data : Byte) (s : State) (r : RecordRef) (i : Fin 8), s.takesCycles = true →
    s.ctrl.opState = .running → s.tableLegal → s.stagingRight → (s.lookup addr.toNat).ref = some r →
    r.isCommit = false → s.takesByte r i →
      ∃ h p g, exec (.hostCycle true false true addr data) s = .next (((s.setHost h).setPort p).setStage g)
        ∧ h.answeredWrite ∧ s.port.sparesHost p
        ∧ (s.takerBefore r i).holdsAlso g.slots[i] r.offset data
        ∧ (∀ k : Fin 8, k ≠ i → g.slots[k] = s.slot k)
        ∧ g.queue = s.stage.queue ∧ g.held = s.stage.held ∧ s.allocationCounted i g

/-- R48, R55: the commit byte of a record of an unlinked region closes its slot into a group of one at the tail of the
commit queue, tagged with its own number. -/
def Obligations.CommitByteQueuesUnlinkedRecord : Prop :=
  ∀ (addr : Addr) (data : Byte) (s : State) (r : RecordRef) (i : Fin 8), s.takesCycles = true →
    s.ctrl.opState = .running → s.tableLegal → s.stagingRight → (s.lookup addr.toNat).ref = some r →
    r.isCommit = true → r.follows = none → r.isTrigger = false → s.takesByte r i →
      ∃ h p g y, exec (.hostCycle true false true addr data) s = .next (((s.setHost h).setPort p).setStage g)
        ∧ h.answeredWrite ∧ s.port.sparesHost p
        ∧ (s.takerBefore r i).holdsAlso y r.offset data
        ∧ g.slots[i] = { y with state := .queued, waitsOn := none, group := some i }
        ∧ (∀ k : Fin 8, k ≠ i → g.slots[k] = s.slot k)
        ∧ g.queue = s.stage.queue ++ [{ tag := i, slots := [i] }] ∧ g.held = s.stage.held
        ∧ s.allocationCounted i g

/-- R69, R70: the commit byte of a following region's record makes its slot HELD at the tail of the trigger's held list,
or, with three slots there, leaves it FILLING and logs GROUP_LIMIT. -/
def Obligations.FollowerCommitHoldsOrMeetsLimit : Prop :=
  ∀ (addr : Addr) (data : Byte) (s : State) (r : RecordRef) (i t : Fin 8), s.takesCycles = true →
    s.ctrl.opState = .running → s.tableLegal → s.stagingRight → (s.lookup addr.toNat).ref = some r →
    r.isCommit = true → r.follows = some t → s.takesByte r i →
      (s.stage.held[t].length < 3 →
        ∃ h p g y, exec (.hostCycle true false true addr data) s = .next (((s.setHost h).setPort p).setStage g)
          ∧ h.answeredWrite ∧ s.port.sparesHost p
          ∧ (s.takerBefore r i).holdsAlso y r.offset data
          ∧ g.slots[i] = { y with state := .held, waitsOn := some t, group := none }
          ∧ (∀ k : Fin 8, k ≠ i → g.slots[k] = s.slot k)
          ∧ g.held[t] = s.stage.held[t] ++ [i] ∧ (∀ k : Fin 8, k ≠ t → g.held[k] = s.stage.held[k])
          ∧ g.queue = s.stage.queue ∧ s.allocationCounted i g)
      ∧ (s.stage.held[t].length = 3 →
        ∃ h p g, exec (.hostCycle true false true addr data) s =
            .next ((((s.setHost h).setPort p).setStage g).setEvents
              ((s.events.arrive
                { kind := .groupLimit, detail := BitVec.ofNat 8 r.region.val, region := some t,
                  address := some addr, count := 3 }).evaluate s.table.mask))
          ∧ h.answeredWrite ∧ s.port.sparesHost p
          ∧ (s.takerBefore r i).holdsAlso g.slots[i] r.offset data
          ∧ (∀ k : Fin 8, k ≠ i → g.slots[k] = s.slot k)
          ∧ g.held = s.stage.held ∧ g.queue = s.stage.queue ∧ s.allocationCounted i g)

/-- R71, R72: the commit byte of a trigger region's record queues the slots HELD on it and then its own slot as one
group, tagged with its own slot's number, and empties the held list. -/
def Obligations.TriggerCommitQueuesHeldSlots : Prop :=
  ∀ (addr : Addr) (data : Byte) (s : State) (r : RecordRef) (i : Fin 8), s.takesCycles = true →
    s.ctrl.opState = .running → s.tableLegal → s.stagingRight → (s.lookup addr.toNat).ref = some r →
    r.isCommit = true → r.follows = none → r.isTrigger = true → s.takesByte r i →
      ∃ h p g y, exec (.hostCycle true false true addr data) s = .next (((s.setHost h).setPort p).setStage g)
        ∧ h.answeredWrite ∧ s.port.sparesHost p
        ∧ (s.takerBefore r i).holdsAlso y r.offset data
        ∧ g.slots[i] = { y with state := .queued, waitsOn := none, group := some i }
        ∧ (∀ k ∈ s.stage.held[r.region],
            g.slots[k] = { s.slot k with state := .queued, waitsOn := none, group := some i })
        ∧ (∀ k : Fin 8, k ≠ i → k ∉ s.stage.held[r.region] → g.slots[k] = s.slot k)
        ∧ g.queue = s.stage.queue ++ [{ tag := i, slots := s.stage.held[r.region] ++ [i] }]
        ∧ g.held[r.region] = [] ∧ (∀ k : Fin 8, k ≠ r.region → g.held[k] = s.stage.held[k])
        ∧ s.allocationCounted i g

/-- R50, R51: a RECORD write that must allocate and finds no slot FREE is held when some slot is on its way to FREE, and
otherwise dropped, answered and logged as STAGE_FULL with the number of FILLING slots. -/
def Obligations.FullStoreHoldsOrRefuses : Prop :=
  ∀ (addr : Addr) (data : Byte) (s : State) (r : RecordRef), s.takesCycles = true →
    s.ctrl.opState = .running → (s.lookup addr.toNat).ref = some r →
    (∀ k : Fin 8, (s.slot k).state ≠ .free) →
    (∀ k : Fin 8, (s.slot k).state = .filling → (s.slot k).ofRecord r.region r.home = false) →
      ((∃ k : Fin 8, (s.slot k).state ∈ [SlotState.queued, .writing, .logged, .applying]) →
        ∃ h p, exec (.hostCycle true false true addr data) s = .next ((s.setHost h).setPort p)
          ∧ h.phase = .holding ∧ h.hold = some .slot ∧ h.kind = .write ∧ h.addr = addr ∧ h.data = data
          ∧ s.port.sparesHost p)
      ∧ ((∀ k : Fin 8, (s.slot k).state ∈ [SlotState.filling, .held]) →
        ∃ h p, exec (.hostCycle true false true addr data) s = .next (((s.setHost h).setPort p).setEvents
            ((s.events.arrive
              { kind := .stageFull, detail := 0, region := some r.region, address := some addr,
                count := BitVec.ofNat 8 (s.stage.count .filling) }).evaluate s.table.mask))
          ∧ h.answeredWrite ∧ s.port.sparesHost p)

/-! ## The memory port and the engines -/

/-- R36: a completed access reads the byte that memory holds or leaves the byte it writes. A memory that fails its write
is the operand's (log 7), and an address beyond memory stops the model by name (log 10). -/
def Obligations.CompletedAccessMovesOneByte : Prop :=
  ∀ (s : State) (a : Access) (ord : Order), s.supply = true → s.port.inFlight = some a →
    (a.addr < memorySize s.ctrl.straps →
        ∃ t, exec (.memoryAccessComplete .ok ord) s = .next t
          ∧ (a.op = .read → t.mem = s.mem)
          ∧ ∀ b, a.op = .write b → t.mem = s.mem.write a.addr b
              ∧ (Memory.wf s.mem = true → t.mem.read a.addr = b)
              ∧ ∀ k, k ≠ a.addr → t.mem.read k = s.mem.read k)
      ∧ (memorySize s.ctrl.straps ≤ a.addr →
          ∀ ans, exec (.memoryAccessComplete ans ord) s = .fault .beyondMemory)

/-- R21, R22, R24, R25, R36: the host path takes its completed access: an awaited read is answered with the byte memory
holds, an awaited write is answered, and a withdrawn or abandoned cycle leaves the port IDLE; memory is left as the access
leaves it, and nothing else changes but the next grant of the port. -/
def Obligations.HostAccessIsAnswered : Prop :=
  ∀ (s : State) (a : Access) (ord : Order), s.supply = true → s.port.inFlight = some a →
    a.owner = .requester .host → a.addr < memorySize s.ctrl.straps →
      ∃ h, exec (.memoryAccessComplete .ok ord) s =
          .next ((((s.setPort { s.port with inFlight := none }).setHost h).setMem
            (match a.op with
              | .read => s.mem
              | .write b => s.mem.write a.addr b)).grantBy ord)
        ∧ (s.host.fate = .awaited → s.host.kind = .read → a.op = .read →
            h = { s.host with phase := .answered, hold := none, hd := some (s.mem.read a.addr) })
        ∧ (s.host.fate = .awaited → s.host.kind = .write →
            h = { s.host with phase := .answered, hold := none, hd := none })
        ∧ (s.host.fate ≠ .awaited → h = HostPort.idle)

/-- R38: a free port goes to the first requester that waits, after the last granted one in the rotation host path,
Writer, Applier; without a request nothing changes in RUNNING. -/
def Obligations.ArbiterGrantsInRotation : Prop :=
  ∀ s : State, s.supply = true → s.ctrl.opState = .running → s.port.inFlight = none →
    ((∀ q, s.wants q = none) → s.grant = s)
      ∧ ∀ (before after : List Requester) (r : Requester) (a : Access),
          (match s.port.lastGranted with
            | .host => [Requester.writer, .applier, .host]
            | .writer => [.applier, .host, .writer]
            | .applier => [.host, .writer, .applier]) = before ++ r :: after →
          (∀ q ∈ before, s.wants q = none) → s.wants r = some a →
            ∃ h, s.grant = (s.setPort { inFlight := some a, lastGranted := r }).setHost h
              ∧ (r = .host → h = { s.host with phase := .access }) ∧ (r ≠ .host → h = s.host)

/-- R56, R57, R85, R107, R108, R109: in RUNNING an IDLE Writer with no clearing write left takes the head group, if there
is one: its slots go to WRITING, L and the retry count are set, and the merge goes through the group's offsets in order:
an offset that no slot holds takes the byte of the next older version that holds it, and the merge stops in MERGE at the
first that none holds; without one the Writer is in PLACE. Nothing else changes but a grant of the port; a write in the slot hold that a completed
access has left to this command (log 8) is then decoded afresh. -/
def Obligations.WriterTakesHeadGroup : Prop :=
  ∀ s : State, s.supply = true → s.ctrl.opState = .running → s.writer.phase = .idle → s.writer.clearing = 0 →
    (s.stage.queue = [] → exec .writerTakeGroup s = .next s)
      ∧ ∀ (grp : Group) (rest : List Group), s.stage.queue = grp :: rest →
        (s.holdsForSlot → (∃ i : Fin 8, i ∉ grp.slots ∧ (s.slot i).state = .free) →
            s.pending.head? ≠ some .storeProfile →
          ∃ t, exec .writerTakeGroup s = .next t
            ∧ s.heldWriteServed t fun i => i ∉ grp.slots ∧ (s.slot i).state = .free)
        ∧ (s.host.hold ≠ some .slot ∨ (∀ i : Fin 8, (s.slot i).state ≠ .free) →
        ∃ g w, exec .writerTakeGroup s = .next ((s.setStage g).setWriter w).grant
          ∧ g.queue = rest ∧ g.held = s.stage.held ∧ g.chain = s.stage.chain
          ∧ g.openCounter = s.stage.openCounter
          ∧ w = { Writer.idle with
              phase := w.phase, group := some grp,
              length := 8 + (grp.slots.map fun i => 4 + (s.slot i).length).sum }
          ∧ (∀ i ∈ grp.slots, g.slots[i].state = .writing ∧ g.slots[i].region = (s.slot i).region
              ∧ g.slots[i].home = (s.slot i).home ∧ g.slots[i].length = (s.slot i).length
              ∧ g.slots[i].openNumber = (s.slot i).openNumber)
          ∧ (∀ i : Fin 8, i ∉ grp.slots → g.slots[i] = s.slot i)
          ∧ (∀ (i : Fin 8) (k : Nat), (s.slot i).written.getLsbD k = true →
              g.slots[i].written.getLsbD k = true ∧ g.slots[i].byte k = (s.slot i).byte k)
          ∧ (∀ i ∈ grp.slots, ∀ k, (s.slot i).written.getLsbD k = false → g.slots[i].written.getLsbD k = true →
              k < (s.slot i).length ∧ (s.stage.chain.Nodup → i ∈ s.stage.chain →
                ∃ j, g.nextOlder i j k ∧ g.slots[i].byte k = g.slots[j].byte k))
          ∧ (w.phase = .merge ∨ w.phase = .place)
          ∧ (w.phase = .place ↔ ∀ i ∈ grp.slots, ∀ k, k < (s.slot i).length → g.slots[i].written.getLsbD k = true)
          ∧ (w.phase = .merge → ∃ (i : Fin 8) (k : Nat), i ∈ grp.slots ∧ k < (s.slot i).length
              ∧ g.mergeNeed grp.slots = some (i, k) ∧ g.slots[i].written.getLsbD k = false
              ∧ ∀ j, ¬g.nextOlder i j k))

/-- R109: in MERGE the Writer asks for the home byte, HOME plus the offset, of the first offset without a byte; when its
read completes, the byte that memory holds at the address read is stored there, and every byte that the slots of the group
held is kept. -/
def Obligations.MergeKeepsHeldBytes : Prop :=
  (∀ (s : State) (i : Fin 8) (k : Nat) (home : Addr), s.ctrl.opState = .running → s.writer.phase = .merge →
      s.stage.mergeNeed s.writer.slots = some (i, k) → (s.slot i).home = some home →
        s.writerWants = some { owner := .requester .writer, addr := home.toNat + k, op := .read })
    ∧ ∀ (s t : State) (a : Access) (ord : Order) (i : Fin 8) (k : Nat), s.supply = true → s.stagingRight →
      s.port.inFlight = some a → a.owner = .requester .writer → a.op = .read → s.writer.phase = .merge →
      exec (.memoryAccessComplete .ok ord) s = .next t →
        (i ∈ s.writer.slots → (s.slot i).written.getLsbD k = true →
            (t.slot i).written.getLsbD k = true ∧ (t.slot i).byte k = (s.slot i).byte k)
          ∧ (k < 128 → s.stage.mergeNeed s.writer.slots = some (i, k) →
              (t.slot i).written.getLsbD k = true ∧ (t.slot i).byte k = s.mem.read a.addr)

/-- R94, R95, R96, R111: the three cases of a placement; nothing else changes but a grant of the port; a write in the slot
hold that a completed access has left to this command (log 8) is then decoded afresh. That R94's conditions decide also
where a residue of recovery leaves no room and no entry is live, which R96 and R148 rule out, is the model's choice
(log 33). -/
def Obligations.WriterPlacesEntry : Prop :=
  ∀ s : State, s.supply = true → s.ctrl.opState = .running → s.writer.phase = .place →
    let j := s.journalLength
    let l := s.writer.length
    let t := s.journal.tail
    let check := entryCheck s.journal.nextWrite s.writer.slots.length l (s.stage.segments s.writer.slots)
    (s.holdsForSlot → (∃ i : Fin 8, (s.slot i).state = .free) → s.pending.head? ≠ some .storeProfile →
        ∃ u, exec .writerPlace s = .next u ∧ s.heldWriteServed u fun i => (s.slot i).state = .free)
    ∧ (s.host.hold ≠ some .slot ∨ (∀ i : Fin 8, (s.slot i).state ≠ .free) →
    (t + l ≤ j → (∀ o, t ≤ o → o < t + l → s.journal.holds j o = false) →
        exec .writerPlace s = .next ((s.setJournal
            { s.journal with tail := t + l, held := s.journal.held + l }).setWriter
          { s.writer with
            phase := .write, pos := t, padAt := none, seq := s.journal.nextWrite, check := check, idx := 0 }).grant)
      ∧ (j < t + l → (∀ o, o < l → s.journal.holds j o = false) →
        exec .writerPlace s = .next ((s.setJournal
            { s.journal with tail := l, held := s.journal.held + (j - t) + l }).setWriter
          { s.writer with
            phase := .write, pos := 0, padAt := (if t < j then some t else none),
            seq := s.journal.nextWrite, check := check, idx := 0 }).grant)
      ∧ ((t + l ≤ j → ∃ o, t ≤ o ∧ o < t + l ∧ s.journal.holds j o = true) →
          (j < t + l → ∃ o, o < l ∧ s.journal.holds j o = true) →
        exec .writerPlace s = .next s.grant))

/-- R92, R93, R94, R95: a placement keeps the tail at the end of the held span and the held count within J. -/
def Obligations.PlacementKeepsHeldSpan : Prop :=
  ∀ s t : State, s.journal.spanRight s.journalLength → 14 ≤ s.writer.length → s.writer.length ≤ 536 →
    exec .writerPlace s = .next t → t.journal.spanRight s.journalLength

/-- R117, R118: an IDLE Applier in RUNNING takes the head of the live-entry list: its slots go to APPLYING and the
Applier is at HOME of the first segment; nothing else changes but a grant of the port; a write in the slot hold that a
completed access has left to this command (log 8) is then decoded afresh. -/
def Obligations.ApplierTakesHeadEntry : Prop :=
  ∀ (s : State) (e : LiveEntry) (rest : List LiveEntry), s.supply = true → s.ctrl.opState = .running →
    s.applier.phase = .idle → s.journal.live = e :: rest →
      (s.holdsForSlot → (∃ i : Fin 8, i ∉ e.group.slots ∧ (s.slot i).state = .free) →
          s.pending.head? ≠ some .storeProfile →
        ∃ t, exec .applierTakeEntry s = .next t
          ∧ s.heldWriteServed t fun i => i ∉ e.group.slots ∧ (s.slot i).state = .free)
      ∧ (s.host.hold ≠ some .slot ∨ (∀ i : Fin 8, (s.slot i).state ≠ .free) →
      ∃ g, exec .applierTakeEntry s = .next ((s.setStage g).setApplier
          { phase := .home, seg := 0, idx := 0, retry := 0, resuming := false }).grant
        ∧ (∀ i ∈ e.group.slots, g.slots[i] = { s.slot i with state := .applying })
        ∧ (∀ i : Fin 8, i ∉ e.group.slots → g.slots[i] = s.slot i)
        ∧ g.queue = s.stage.queue ∧ g.held = s.stage.held ∧ g.chain = s.stage.chain
        ∧ g.openCounter = s.stage.openCounter)

/-- R88, R91, R114, R115, R124: when the VALID mark reads back equal, the group's slots become LOGGED, the entry joins
the live-entry list, the next sequence to write rises by 1, and the Writer is IDLE, whatever the operating state;
nothing else changes but a grant of the port. -/
def Obligations.ValidMarkReadBackLogsEntry : Prop :=
  ∀ (s : State) (a : Access) (ord : Order) (grp : Group), s.supply = true → s.port.inFlight = some a →
    a.owner = .requester .writer → a.op = .read → a.addr < memorySize s.ctrl.straps →
    s.writer.phase = .mark → s.writer.idx = 1 → s.writer.group = some grp → s.mem.read a.addr = 0xA5 →
    s.host.hold ≠ some .slot →
      ∃ g, exec (.memoryAccessComplete .ok ord) s =
          .next (((((s.setPort { s.port with inFlight := none }).setStage g).setWriter Writer.idle).setJournal
            { s.journal with
              live := s.journal.live
                ++ [{ pos := s.writer.pos, length := s.writer.length, seq := s.writer.seq, group := grp }],
              nextWrite := s.journal.nextWrite + 1 }).grantBy ord)
        ∧ (∀ i ∈ grp.slots, g.slots[i] = { s.slot i with state := .logged })
        ∧ (∀ i : Fin 8, i ∉ grp.slots → g.slots[i] = s.slot i)
        ∧ g.queue = s.stage.queue ∧ g.held = s.stage.held ∧ g.chain = s.stage.chain
        ∧ g.openCounter = s.stage.openCounter

/-- R53, R116, R123, R124, R136: a first compare failure of the Writer in RUNNING logs JOURNAL_FAULT FIRST and goes back
to WRITE; one of the Applier logs APPLY_FAULT FIRST and goes back to the first access of its step. A second failure logs
SECOND and FAULTED, enters FAULTED with cause JOURNAL or APPLY, and refuses and logs a write in the slot hold. The second
part takes the orders in which the entry to FAULTED comes before another grant (log 8), and the region of that WRITE_DENIED
is that of the decode that held the write, the model's choice (log 28). A Writer or an Applier whose access RESUME found
in flight is the matter of ResumeRestartsEngines. -/
def Obligations.JournalFaultRetriesThenFaults : Prop :=
  ∀ (s : State) (a : Access) (m : MemStep), s.supply = true → s.ctrl.opState = .running →
    s.port.inFlight = some a → a.op = .read → a.addr < memorySize s.ctrl.straps →
    m.verify = true → s.mem.read a.addr ≠ m.byte →
      let done := s.setPort { s.port with inFlight := none }
      let faulted := fun (c : FaultCause) (detail : Byte) (second : EventReport) (t : Host.Outcome State Fault Refusal) =>
        ∃ h e, t = .next (((done.setHost h).setCtrl
              { s.ctrl with opState := .faulted, hrsto := false, cause := c }).setEvents e).grant
          ∧ (s.host.hold ≠ some .slot →
              h = s.host ∧ e = ((s.events.arrive second).arrive
                { kind := .faulted, detail := detail, region := none, address := none,
                  count := 0 }).evaluate s.table.mask)
          ∧ (s.host.phase = .holding → s.host.hold = some .slot →
              h = { s.host with phase := .answered, hold := none, hd := none }
                ∧ e = (((s.events.arrive second).arrive
                    { kind := .faulted, detail := detail, region := none, address := none, count := 0 }).arrive
                    { kind := .writeDenied, detail := 0x02,
                      region := s.host.found.bind Lookup.region, address := some s.host.addr,
                      count := 0 }).evaluate s.table.mask)
      (a.owner = .requester .writer → s.writer.phase ∈ [WriterPhase.verify, .mark] →
          s.writerProgram[s.writer.idx]? = some m → s.writer.resuming = false →
        let fault := fun detail : Byte =>
          ({ kind := .journalFault, detail := detail, region := none, address := some (toAddr m.addr),
             count := s.writer.seq.extractLsb' 0 8 } : EventReport)
        (s.writer.retry = 0 → s.host.hold ≠ some .slot → ∀ ord,
            exec (.memoryAccessComplete .ok ord) s = .next (((done.setWriter
                { s.writer with retry := 1, phase := .write, idx := 0 }).setEvents
                  ((s.events.arrive (fault 0x01)).evaluate s.table.mask)).grantBy ord))
          ∧ (s.writer.retry = 1 →
            ∀ ord ∈ [Order.heldFirst, .heldThenTake],
              faulted .journal 0x01 (fault 0x02) (exec (.memoryAccessComplete .ok ord) s)))
      ∧ ∀ (e : LiveEntry) (rest : List LiveEntry), a.owner = .requester .applier →
          s.applier.phase ∈ [ApplierPhase.home, .retire, .anchor] → s.applierProgram[s.applier.idx]? = some m →
          s.applier.resuming = false → s.journal.live = e :: rest →
        let region : Option (Fin 8) :=
          match s.applier.phase, e.group.slots[s.applier.seg]? with
          | .home, some i =>
            match (s.slot i).region with
            | .entry k => some k
            | _ => none
          | _, _ => none
        let fault := fun detail : Byte =>
          ({ kind := .applyFault, detail := detail, region := region, address := some (toAddr m.addr),
             count := e.seq.extractLsb' 0 8 } : EventReport)
        (s.applier.retry = 0 → s.host.hold ≠ some .slot → ∀ ord,
            exec (.memoryAccessComplete .ok ord) s = .next (((done.setApplier
                { s.applier with retry := 1, idx := 0 }).setEvents
                  ((s.events.arrive (fault 0x01)).evaluate s.table.mask)).grantBy ord))
          ∧ (s.applier.retry = 1 →
            ∀ ord ∈ [Order.heldFirst, .heldThenTake],
              faulted .apply 0x02 (fault 0x02) (exec (.memoryAccessComplete .ok ord) s))

/-- R38, R45, R52, R57, R97, R101, R122: when the anchor mark reads back equal, the entry at the head of the live-entry list
is done: head, held count, sequence to apply and copy in use move on, its slots become FREE, and a profile store is
reported. With nothing held behind the entry the held count is then 0. A write in the slot hold ends its hold, unless a
STORE PROFILE comes close and is served first, or an engine's take, to which it is then left with the grant. Two clauses
are the model's: that the head moves by the whole of J where a residue and the entry fill it, which is its reading of R97
(log 31); and that the operand gives the order of the held write, STORE PROFILE and the take, its choice (log 8). -/
def Obligations.AnchorWriteFreesEntry : Prop :=
  ∀ (s : State) (a : Access) (ord : Order) (e : LiveEntry) (rest : List LiveEntry), s.supply = true →
    s.port.inFlight = some a → a.owner = .requester .applier → a.op = .read →
    a.addr < memorySize s.ctrl.straps → s.applier.phase = .anchor → s.applier.idx = 32 →
    s.mem.read a.addr = 0x4C → s.journal.live = e :: rest →
    (s.holdsForSlot → e.group.slots ≠ [] →
      (ord ∈ [.otherFirst, .takeFirst] → s.pending.head? ≠ some .storeProfile) →
      (ord = .takeFirst →
        s.pending.head? ∉ [some Instr.writerTakeGroup, some .writerPlace, some .applierTakeEntry]) →
      ∃ t, exec (.memoryAccessComplete .ok ord) s = .next t
        ∧ s.heldWriteServed t fun i => i ∈ e.group.slots ∨ (s.slot i).state = .free)
    ∧ (s.holdsForSlot → ord = .takeFirst → s.pending.head? = some .applierTakeEntry → rest ≠ [] →
      ∃ t, exec (.memoryAccessComplete .ok ord) s = .next t
        ∧ t.host = s.host ∧ t.port = { s.port with inFlight := none } ∧ t.journal.live = rest
        ∧ ∀ i ∈ e.group.slots, (t.slot i).state = .free)
    ∧ (s.host.hold ≠ some .slot →
      ∃ g ev, exec (.memoryAccessComplete .ok ord) s =
          .next ((((((s.setPort { s.port with inFlight := none }).setStage g).setApplier
              Applier.idle).setEvents ev).setJournal
            { s.journal with
              live := rest,
              head := e.pos + e.length,
              held := s.journal.held
                - headAdvance s.journalLength s.journal.head (e.pos + e.length),
              nextApply := e.seq + 1,
              inUse := some (if s.journal.inUse = some .a then .b else .a),
              generation := s.journal.generation + 1 }).grantBy ord)
        ∧ (∀ i ∈ e.group.slots, g.slots[i] = Slot.cleared (s.slot i).image)
        ∧ (∀ i : Fin 8, i ∉ e.group.slots → g.slots[i] = s.slot i)
        ∧ g.queue = s.stage.queue ∧ g.held = s.stage.held ∧ g.openCounter = s.stage.openCounter
        ∧ g.chain = s.stage.chain.filter (fun i => decide (i ∉ e.group.slots))
        ∧ (s.journal.spanRight s.journalLength → s.journal.tail = e.pos + e.length →
            s.journal.held - headAdvance s.journalLength s.journal.head (e.pos + e.length) = 0)
        ∧ ((∀ i ∈ e.group.slots, (s.slot i).region ≠ .profile) → ev = s.events)
        ∧ ∀ i : Fin 8, e.group.slots = [i] → (s.slot i).region = .profile →
            ev = (s.events.arrive
              { kind := .profileStored, detail := 0, region := none, address := some (toAddr (s.base + 32)),
                count := (s.slot i).byte 2 }).evaluate s.table.mask)

/-! ## Recovery and the profile load -/

/-- R98, R140, R148, R150, R151, R173: recovery without a valid anchor and with AFMT low ends in LOCKED; with an anchor
the scan starts at the chosen copy's head; a scan that meets no mark ends in INITLOAD with the journal described, the
report written and RECOVERED logged. That the choice is made when the 32nd anchor byte has been read is the model's
reading (log 12). Left out: AFMT high (R105), a replay (R144 to R147), anchor lag, a PAD and damage (R141, R142). -/
def Obligations.RecoveryChoosesAndEnds : Prop :=
  ∀ (s : State) (a : Access) (ord : Order), s.supply = true → s.ctrl.opState = .recovering →
    s.port.inFlight = some a → a.owner = .system → a.op = .read → a.addr < memorySize s.ctrl.straps →
    s.host.phase = .idle →
      let r := s.ctrl.recovery
      let bs := r.buf ++ [s.mem.read a.addr]
      let choice := chooseAnchor (readAnchor s.ctrl.straps (bs.take 16)) (readAnchor s.ctrl.straps (bs.drop 16))
      let report := fun (o : RecoveryOutcome) (g : Word16) =>
        ({ RecoveryReport.cleared s.ctrl.straps with
            outcome := o, unread := true, cause := s.ctrl.startCause, generation := g } : RecoveryReport)
      let noAnchor : EventReport :=
        { kind := .noAnchor, detail := 0, region := none, address := none, count := 0 }
      let recovered := fun (d : Byte) (x : Option Addr) (n : Nat) =>
        ({ kind := .recovered, detail := d, region := none, address := x, count := BitVec.ofNat 8 n } : EventReport)
      (r.phase = .anchors → r.buf.length = 31 → choice = none → s.ctrl.straps.afmt = false →
          ∃ t, exec (.memoryAccessComplete .ok ord) s = .next t
            ∧ t.ctrl.opState = .locked ∧ t.ctrl.hrsto = false ∧ t.ctrl.report = report .noAnchor 0
            ∧ t.journal.live = [] ∧ t.journal.tail = 0 ∧ t.journal.head = 0 ∧ t.journal.held = 0
            ∧ t.journal.inUse = none ∧ t.table = s.table ∧ t.stage = s.stage ∧ t.mem = s.mem
            ∧ t.events = ((s.events.arrive noAnchor).arrive (recovered 0x03 none 0)).evaluate s.table.mask)
        ∧ (∀ (c : AnchorCopy) (x : AnchorRecord), r.phase = .anchors → r.buf.length = 31 → choice = some (c, x) →
            r.advance = 0 →
          ∃ t, exec (.memoryAccessComplete .ok ord) s = .next t
            ∧ t.ctrl.opState = .recovering ∧ t.journal.inUse = some c ∧ t.journal.generation = x.generation
            ∧ t.ctrl.recovery.phase = .scan ∧ t.ctrl.recovery.buf = [] ∧ t.ctrl.recovery.expected = x.next
            ∧ t.ctrl.recovery.p = (if x.head = s.journalLength then 0 else x.head)
            ∧ (t.ctrl.recovery.oneAnchor = true ↔ readAnchor s.ctrl.straps (bs.take 16) = none
                ∨ readAnchor s.ctrl.straps (bs.drop 16) = none)
            ∧ t.port.inFlight = some
                { owner := .system, addr := s.journalAddr t.ctrl.recovery.p, op := .read }
            ∧ t.events = s.events ∧ t.mem = s.mem)
        ∧ (r.phase = .scan → r.buf = [] → s.mem.read a.addr ∉ [(0xA5 : Byte), 0x5A, 0xC3] →
            r.p < s.journalLength → r.replays ≤ 255 → r.firstFaults ≤ 255 →
          let o : RecoveryOutcome := if r.replays = 0 ∧ r.lag = false then .clean else .replayed
          ∃ t, exec (.memoryAccessComplete .ok ord) s = .next t
            ∧ t.ctrl.opState = .initload ∧ t.ctrl.hrsto = true
            ∧ t.journal = { s.journal with
                live := [], tail := r.p, head := r.anchorHead, nextWrite := r.expected, nextApply := r.expected,
                held := forwardDistance s.journalLength r.anchorHead r.p }
            ∧ t.ctrl.report = { report o s.journal.generation with
                replayCount := r.replays, lag := r.lag, damaged := r.damaged, oneAnchor := r.oneAnchor,
                firstFaults := r.firstFaults }
            ∧ t.events = (s.events.arrive
                (recovered o.code (some (toAddr (s.base + 128 + r.p))) r.replays)).evaluate s.table.mask
            ∧ (∀ i : Fin 8, t.table.entries[i] = RegionEntry.invalid)
            ∧ t.port.inFlight = some { owner := .system, addr := s.base + 32, op := .read }
            ∧ t.stage = s.stage ∧ t.mem = s.mem)

/-- R19, R33, R161, R162, R163, R164: when the 72nd byte of the profile block has been read, the part enters RUNNING; from a
good block the store count, the default class and the mask are taken, and each valid entry that passes checks 1 to 4
against those loaded below it, the others staying invalid, with a PROFILE_BAD for each value that is rejected and
PROFILE_LOADED at the end; from a bad one the table is empty, the default class is that of DEFRO, every event is enabled
and PROFILE_BAD is logged. A cycle in the start-up or the reload hold is then served as the same cycle taken afresh. -/
def Obligations.ProfileLoadSetsLiveValues : Prop :=
  ∀ (s : State) (a : Access) (ord : Order), s.supply = true → s.ctrl.opState ∈ [OpState.initload, .reloading] →
    s.port.inFlight = some a → a.owner = .system → a.op = .read → a.addr < memorySize s.ctrl.straps →
    s.ctrl.loader.length = 71 → s.tableEmptyUntilLoaded →
      let bs := s.ctrl.loader ++ [s.mem.read a.addr]
      let defro : DefaultClass := if s.ctrl.straps.defro then .readonly else .openClass
      ∃ count tab ev,
        let u := (((s.setPort { s.port with inFlight := none }).setCtrl
            { s.ctrl with
              opState := .running, hrsto := false, loader := [], lastCount := count }).setTable tab).setEvents ev
        (s.host.phase ≠ .holding → exec (.memoryAccessComplete .ok ord) s = .next (u.grantBy ord))
          ∧ (s.host.phase = .holding → s.host.hold ∈ [some HoldKind.startUp, some .reload] →
              s.host.fate = .awaited → s.host.hd = none → s.pins.srst = false →
              ∃ v : State, exec (.hostCycle true (s.host.kind == .read) (s.host.kind == .write) s.host.addr s.host.data)
                    (u.setHost HostPort.idle) = .next v.grant
                ∧ exec (.memoryAccessComplete .ok ord) s = .next (v.grantBy ord))
          ∧ (profileGood bs = true →
              count = wordAt bs 1 ∧ tab.mask = wordAt bs 4
                ∧ tab.defaultClass = (defaultClassOfCode (byteAt bs 3)).getD defro
                ∧ (∀ i : Fin 8,
                    let e := rawEntry (entryBytesAt bs (8 + 8 * i.val))
                    tab.entries[i] =
                      if e.valid = true ∧ e.firstFailing (RegionTable.below tab.entries i) s.base i = none then
                        e.stored
                      else RegionEntry.invalid)
                ∧ ev = ((s.loadEvents bs tab.entries).foldl EventBlock.arrive s.events).evaluate tab.mask)
          ∧ (profileGood bs = false →
              count = 0 ∧ tab.mask = 0xFFFF ∧ tab.defaultClass = defro
                ∧ (∀ i : Fin 8, tab.entries[i] = RegionEntry.invalid)
                ∧ ev = (s.events.arrive
                    { kind := .profileBad, detail := 0x00, region := none, address := some (toAddr (s.base + 32)),
                      count := 0 }).evaluate 0xFFFF)

/-! ## Events -/

/-- R177, R178: what an arriving event does to the queue and the serial counter. -/
def Obligations.EventArrivesByTheTable : Prop :=
  ∀ (e : EventBlock) (r : EventReport), e.bounded →
    (e.queue.length ≤ 14 ∨ (e.queue.length = 15 ∧ e.hasOverflow = true) →
        (e.arrive r).queue = e.queue ++ [{ report := r, serial := e.serial }]
          ∧ (e.arrive r).serial = e.serial + 1)
      ∧ (e.queue.length = 15 → e.hasOverflow = false →
          (e.arrive r).queue = e.queue ++ [{ serial := e.serial, report :=
              { kind := .overflow, detail := 0, region := none, address := none, count := 1 } }]
            ∧ (e.arrive r).serial = e.serial + 1)
      ∧ (e.queue.length = 16 →
          (e.arrive r).serial = e.serial ∧ (e.arrive r).queue.length = 16
            ∧ ∀ (k : Nat) (x : EventRecord), e.queue[k]? = some x →
                (x.report.kind ≠ .overflow → (e.arrive r).queue[k]? = some x)
                  ∧ (x.report.kind = .overflow → (e.arrive r).queue[k]? = some
                      { x with report := { x.report with
                        count := BitVec.ofNat 8 (min (x.report.count.toNat + 1) 255) } }))

/-! ## The management port -/

/-- R186, R187, R188, R190: a fall of SCS# begins a transaction in an IDLE port and not in a BLOCKED one; a rise ends it,
with no effect, and in FROZEN leaves the port BLOCKED. From the effect point on, the bit times shift out the status byte,
the response bytes and then FFh, most significant bit first, and the port enters TRAILER when the last of them is
complete; for TAKE and REPORT that last completion is a command of its own. That a step on an empty queue is one bit time
is the model's choice (log 6). -/
def Obligations.TransactionsBeginAndEnd : Prop :=
  (∀ s : State, s.supply = true → s.pins.scsLow = false → s.mgmt.phase = .idle →
      ∃ m, exec .transactionBegin s = .next ((s.setPins { s.pins with scsLow := true }).setMgmt m)
        ∧ m.phase = .command ∧ m.bitPos = 0 ∧ m.bytePos = 0 ∧ m.sdo = .driven true)
    ∧ (∀ s : State, s.mgmt.phase = .blocked →
        exec .transactionBegin s = .next (s.setPins { s.pins with scsLow := true }))
    ∧ (∀ s : State, s.supply = true → s.ctrl.opState ≠ .frozen →
        ∃ m, exec .transactionEnd s = .next ((s.setPins { s.pins with scsLow := false }).setMgmt m)
          ∧ m.phase = .idle ∧ m.command = none ∧ m.params = [] ∧ m.sdo = .highImpedance)
    ∧ (∀ s : State, s.ctrl.opState = .frozen →
        exec .transactionEnd s = .next (s.setPins { s.pins with scsLow := false }))
    ∧ (∀ s : State, s.pending = [] →
        step s = .next (if s.supply then s.setMgmt s.mgmt.bitTime else s))
    ∧ ∀ (m : MgmtPort) (n : Nat), m.phase = .result → m.bitPos = 0 → m.bytePos = m.params.length + 1 →
        (n < 8 * (m.response.length + 1) →
            MgmtPort.bitTime^[n] m = { m with bytePos := m.params.length + 1 + n / 8, bitPos := n % 8 }
              ∧ (MgmtPort.bitTime^[n] m).sdo =
                .driven (((m.status :: m.response).getD (n / 8) 0xFF).getMsbD (n % 8)))
          ∧ (8 * (m.response.length + 1) ≤ n → m.command = some .take ∨ m.command = some .report →
            MgmtPort.bitTime^[n] m =
              { m with bytePos := m.params.length + 1 + m.response.length, bitPos := 7 })
          ∧ (8 * (m.response.length + 1) ≤ n → m.command ≠ some .take → m.command ≠ some .report →
            MgmtPort.bitTime^[n] m =
                { m with phase := .trailer, bytePos := m.params.length + 1 + n / 8, bitPos := n % 8 }
              ∧ (MgmtPort.bitTime^[n] m).sdo = .driven true)

/-- R188, R192: each of the fifteen codes names its command and no other byte names one; an unknown code is answered
BAD_COMMAND with nothing else changed, in every state in which the port answers. A BAD_COMMAND term whose code names a
command is not well formed and is refused by name (the model's choice, log 20). -/
def Obligations.CommandCodesDecodeOrAreBad : Prop :=
  ((∀ c : MgmtCommand, commandOfByte c.code = some c)
      ∧ (∀ (b : Byte) (c : MgmtCommand), commandOfByte b = some c → b = c.code)
      ∧ ∀ b : Byte, (Instr.badCommand b).wf = true ↔ ∀ c : MgmtCommand, b ≠ c.code)
    ∧ ((∀ (code : Byte) (s : State), commandOfByte code = none → s.awaitsCommand = true →
        ∃ m, exec (.badCommand code) s = .next (s.setMgmt m) ∧ m.answers 0x21 [])
      ∧ ∀ (code : Byte) (c : MgmtCommand) (s : State), commandOfByte code = some c →
          exec (.badCommand code) s = .refused .illFormed)

/-- R186, R187, R189, R194: a command that the operating state does not accept is answered NOT_NOW with FFh response bytes
and changes nothing else; the refusing states are written out for the commands that change something. A command whose
parameter bytes are not complete leaves the port in PARAMETERS with the bytes taken, and the command that completes them
acts as it does from its command byte. Without a transaction that can come to it a command changes nothing at all (R190;
the model's choice, log 5). -/
def Obligations.CommandNotAcceptedChangesNothing : Prop :=
  (∀ (i : Instr) (c : MgmtCommand) (ps : List Byte) (s : State), i.mgmt = some (c, ps) →
      (s.awaits c ps = true → c.accepted s.ctrl.opState s.ctrl.format.isSome = false →
          ∃ m, exec i s = .next (s.setMgmt m) ∧ m.command = some c ∧ m.params = ps
            ∧ m.bitPos = 0 ∧ m.bytePos = ps.length + 1 ∧ m.answers 0x10 (List.replicate c.responseBytes 0xFF))
        ∧ (s.awaits c ps = true → exec i s = exec i (s.setMgmt (MgmtPort.quiet .command)))
        ∧ (s.awaits c ps = false → exec i s = .next s))
    ∧ (∀ (i : Instr) (c : MgmtCommand) (ps : List Byte) (s : State), i.partway = some (c, ps) →
        (s.awaits c ps = true → ∃ m, exec i s = .next (s.setMgmt m) ∧ m.phase = .parameters ∧ m.command = some c
            ∧ m.params = ps ∧ m.bitPos = 0 ∧ m.bytePos = ps.length + 1 ∧ m.sdo = .driven true)
          ∧ (s.awaits c ps = false → exec i s = .next s))
    ∧ ∀ s : State, s.awaitsCommand = true →
        (s.ctrl.opState ∉ [OpState.running, .faulted] →
            (∀ (b : Byte) (e : EntryBytes), ∃ m, exec (.putRegion (some b) (.whole e)) s = .next (s.setMgmt m)
                ∧ m.answers 0x10 [])
              ∧ (∀ b : Byte, ∃ m, exec (.setDefault (some b)) s = .next (s.setMgmt m) ∧ m.answers 0x10 [])
              ∧ (∀ h l : Byte, ∃ m, exec (.mask (some h) (some l)) s = .next (s.setMgmt m) ∧ m.answers 0x10 [])
              ∧ ∀ b : Byte, ∃ m, exec (.discardHeld (some b)) s = .next (s.setMgmt m) ∧ m.answers 0x10 [0xFF])
          ∧ (s.ctrl.opState ≠ .running → ∃ m, exec .loadProfile s = .next (s.setMgmt m) ∧ m.answers 0x10 [])
          ∧ (s.ctrl.opState ≠ .locked ∨ s.ctrl.format ≠ none →
              ∃ m, exec .format s = .next (s.setMgmt m) ∧ m.answers 0x10 [])

/-- R150, R152, R195, R196: STATUS and REPORT answer their snapshots, in every operating state but FROZEN, and change
nothing. That the STATUS bytes are those of R195 and section 12.7, without the default class that R3 has read back in the
STATUS image, is the model's choice (log 29). -/
def Obligations.StatusAndReportAnswerSnapshots : Prop :=
  ∀ s : State, s.awaitsCommand = true →
    (∃ m, exec .status s = .next (s.setMgmt m) ∧ m.answers 0x00
        ([s.ctrl.opState.code, s.ctrl.cause.code,
          BitVec.ofNat 8 (s.stage.count .free), BitVec.ofNat 8 (s.stage.count .filling),
          BitVec.ofNat 8 (s.stage.count .held), BitVec.ofNat 8 (s.stage.count .queued),
          BitVec.ofNat 8 (s.stage.count .writing), BitVec.ofNat 8 (s.stage.count .logged),
          BitVec.ofNat 8 (s.stage.count .applying), BitVec.ofNat 8 s.journal.live.length,
          BitVec.ofNat 8 ((s.journalLength - s.journal.held) / 256),
          BitVec.ofNat 8 (s.journalLength - s.journal.held), BitVec.ofNat 8 s.events.queue.length,
          (if s.ctrl.report.unread then 1 else 0) ||| (if s.events.alert then 2 else 0)
            ||| BitVec.ofNat 8 (s.stage.queue.length * 16)]))
      ∧ ∃ m, exec .report s = .next (s.setMgmt m) ∧ m.stale = false ∧ m.answers 0x00
        [s.ctrl.report.outcome.code, BitVec.ofNat 8 s.ctrl.report.replayCount,
          (if s.ctrl.report.lag then 1 else 0) ||| (if s.ctrl.report.damaged then 2 else 0)
            ||| (if s.ctrl.report.oneAnchor then 4 else 0) ||| (if s.ctrl.report.unread then 0x80 else 0),
          s.ctrl.report.generation.extractLsb' 8 8, s.ctrl.report.generation.extractLsb' 0 8,
          s.ctrl.report.cause.code,
          BitVec.ofNat 8 (s.ctrl.report.straps.msz.toNat + s.ctrl.report.straps.jsz.toNat * 4)
            ||| (if s.ctrl.report.straps.afmt then 0x10 else 0)
            ||| (if s.ctrl.report.straps.defro then 0x20 else 0),
          BitVec.ofNat 8 s.ctrl.report.firstFaults]

/-- R198: GET REGION, SLOT and GET MASK change nothing; each returns OK with what it reads when its parameter is in
range, BAD_ARG with eight FFh above 7, and NOT_NOW in the start-up states, in which a legal table is empty. -/
def Obligations.ConfigurationReadsChangeNothing : Prop :=
  ∀ s : State, s.awaitsCommand = true →
    (s.ctrl.opState ∈ [OpState.running, .reloading, .locked, .faulted] →
        (∀ (b : Byte) (i : Fin 8), b.toNat = i.val →
            (∃ m, exec (.getRegion (some b)) s = .next (s.setMgmt m)
              ∧ m.answers 0x00 (encodeEntry s.table.entries[i]))
              ∧ ∃ m, exec (.slot (some b)) s = .next (s.setMgmt m) ∧ m.answers 0x00
                ([(s.slot i).state.code,
                  (match (s.slot i).region with
                    | .noRegion => 0xFF | .entry k => BitVec.ofNat 8 k.val | .profile => 0x08)]
                  ++ (match (s.slot i).home with
                    | none => [0xFF, 0xFF, 0xFF]
                    | some a => [BitVec.ofNat 8 (a.toNat / 65536), BitVec.ofNat 8 (a.toNat / 256),
                        BitVec.ofNat 8 a.toNat])
                  ++ [BitVec.ofNat 8 ((List.range 128).countP fun k => (s.slot i).written.getLsbD k),
                    (s.slot i).openNumber.extractLsb' 8 8, (s.slot i).openNumber.extractLsb' 0 8]))
          ∧ (∀ b : Byte, 8 ≤ b.toNat →
              (∃ m, exec (.getRegion (some b)) s = .next (s.setMgmt m) ∧ m.answers 0x20 (List.replicate 8 0xFF))
                ∧ ∃ m, exec (.slot (some b)) s = .next (s.setMgmt m) ∧ m.answers 0x20 (List.replicate 8 0xFF))
          ∧ ∃ m, exec .getMask s = .next (s.setMgmt m) ∧ m.answers 0x00
              [s.table.mask.extractLsb' 8 8, s.table.mask.extractLsb' 0 8])
      ∧ (s.ctrl.opState ∈ [OpState.starting, .recovering, .initload] →
          (∀ b : Byte, ∃ m, exec (.getRegion (some b)) s = .next (s.setMgmt m)
              ∧ m.answers 0x10 (List.replicate 8 0xFF))
            ∧ (∀ b : Byte, ∃ m, exec (.slot (some b)) s = .next (s.setMgmt m)
              ∧ m.answers 0x10 (List.replicate 8 0xFF))
            ∧ (∃ m, exec .getMask s = .next (s.setMgmt m) ∧ m.answers 0x10 [0xFF, 0xFF])
            ∧ (s.tableLegal → ∀ i : Fin 8, s.table.entries[i] = RegionEntry.invalid))

/-- R179: PEEK returns the oldest record, or EMPTY, and leaves everything else alone; a later event does not change the
response, and a TAKE that follows returns the same record. -/
def Obligations.PeekLeavesTheQueue : Prop :=
  ∀ s : State, s.awaitsCommand = true →
    ∃ m, exec .peek s = .next (s.setMgmt m)
      ∧ (∀ r rest, s.events.queue = r :: rest → m.answers 0x00 r.bytes)
      ∧ (s.events.queue = [] → m.answers 0x01 (List.replicate 8 0xFF))
      ∧ (∀ r : EventReport, ((s.setMgmt m).logEvent r).mgmt = m)
      ∧ ∃ m', exec .take s = .next (s.setMgmt m') ∧ m'.status = m.status ∧ m'.response = m.response

/-- R152, R180, R191, R197: TAKE answers as PEEK does, and the eighth response byte of a TAKE with status OK removes the head
record; an OVERFLOW whose count grew meanwhile leaves its growth as a new OVERFLOW at the tail; after EMPTY nothing is
removed. The eighth response byte of REPORT clears the unread flag, but not that of a report written since. -/
def Obligations.ConsumptionWaitsForLastByte : Prop :=
  ((∀ s : State, s.awaitsCommand = true →
        ∃ m, exec .take s = .next (s.setMgmt m) ∧ m.command = some .take
          ∧ (∀ r rest, s.events.queue = r :: rest → m.answers 0x00 r.bytes)
          ∧ (s.events.queue = [] → m.answers 0x01 (List.replicate 8 0xFF)))
      ∧ ∀ s : State, s.supply = true → s.ctrl.opState ≠ .frozen → s.mgmt.phase = .result →
          s.mgmt.command = some .take →
          (s.mgmt.status = 0x01 → ∃ m, exec .takeRemove s = .next (s.setMgmt m) ∧ m.phase = .trailer)
            ∧ ∀ r rest, s.mgmt.status = 0x00 → s.events.queue = r :: rest →
                (r.report.kind ≠ .overflow ∨ s.mgmt.response = r.bytes →
                  ∃ m, exec .takeRemove s = .next ((s.setMgmt m).setEvents
                      { queue := rest, serial := s.events.serial, alert := alertLevel s.table.mask rest })
                    ∧ m.phase = .trailer)
                ∧ ∀ before : EventRecord, r.report.kind = .overflow → s.mgmt.response = before.bytes →
                    before.report.count ≠ r.report.count →
                    ∃ m q, exec .takeRemove s = .next ((s.setMgmt m).setEvents
                        { queue := q, serial := s.events.serial + 1, alert := alertLevel s.table.mask q })
                      ∧ m.phase = .trailer
                      ∧ q = rest ++ [{ serial := s.events.serial, report :=
                          { kind := .overflow, detail := 0, region := none, address := none,
                            count := r.report.count - before.report.count } }])
    ∧ (∀ s : State, s.supply = true → s.ctrl.opState ≠ .frozen → s.mgmt.phase = .result →
      s.mgmt.command = some .report →
        (s.mgmt.stale = false →
            ∃ m, exec .reportReadComplete s = .next ((s.setMgmt m).setCtrl
                { s.ctrl with report := { s.ctrl.report with unread := false } }) ∧ m.phase = .trailer)
          ∧ (s.mgmt.stale = true →
            ∃ m, exec .reportReadComplete s = .next (s.setMgmt m) ∧ m.phase = .trailer))

/-- R10 to R16: the status of PUT REGION is that of the first of the six checks that fails, and only with none failing
is the entry replaced, as a whole. An index above 7 is BAD_ARG. -/
def Obligations.PutRegionChecksInOrder : Prop :=
  (∀ (b : Byte) (eb : EntryBytes) (s : State), s.awaitsCommand = true →
      s.ctrl.opState ∈ [OpState.running, .faulted] → 8 ≤ b.toNat →
        ∃ m, exec (.putRegion (some b) (.whole eb)) s = .next (s.setMgmt m) ∧ m.answers 0x20 [])
  ∧ ∀ (b : Byte) (i : Fin 8) (eb : EntryBytes) (s : State), s.awaitsCommand = true →
    s.ctrl.opState ∈ [OpState.running, .faulted] → s.tableLegal → b.toNat = i.val →
      let e := rawEntry eb
      let fail1 := e.cls = 3 ∨ 2 ^ 19 ≤ e.base ∨ 2 ^ 19 ≤ e.limit ∨ e.limit < e.base ∨ s.base ≤ e.limit
      let fail2 := e.cls = 1 ∧ (e.rsize < 2 ∨ 128 < e.rsize ∨ (e.limit - e.base + 1) % e.rsize ≠ 0
        ∨ e.rsize ≤ e.commit)
      let followed := ∃ k : Fin 8, k ≠ i ∧ s.table.entries[k].valid = true
        ∧ s.table.entries[k].follows = some i
      let fail3 := e.cls = 1 ∧ e.follows ≠ 15 ∧ (8 ≤ e.follows.toNat ∨ e.follows.toNat = i.val ∨ followed
        ∨ ∃ t : Fin 8, e.follows.toNat = t.val ∧ (s.table.entries[t].valid = false
            ∨ s.table.entries[t].cls ≠ .record ∨ s.table.entries[t].follows ≠ none))
      let fail4 := ∃ (k : Fin 8) (a : Nat), k ≠ i ∧ s.table.entries[k].covers a = true
        ∧ e.base ≤ a ∧ a ≤ e.limit
      let fail5 := ∃ k : Fin 8, ((s.slot k).state ≠ .free ∧ (s.slot k).region = .entry i)
        ∨ ((s.slot k).state = .held ∧ (s.slot k).waitsOn = some i)
      let fail6 := followed ∧ (e.valid = false ∨ e.cls ≠ 1 ∨ e.base ≠ s.table.entries[i].base.toNat
        ∨ e.limit ≠ s.table.entries[i].limit.toNat ∨ e.rsize ≠ s.table.entries[i].rsize
        ∨ e.commit ≠ s.table.entries[i].commit)
      let early := fail1 ∨ fail2 ∨ fail3 ∨ fail4
      (e.valid = true ∧ (fail1 ∨ fail2 ∨ fail3) →
          ∃ m, exec (.putRegion (some b) (.whole eb)) s = .next (s.setMgmt m) ∧ m.answers 0x20 [])
        ∧ (e.valid = true ∧ ¬ (fail1 ∨ fail2 ∨ fail3) ∧ fail4 →
          ∃ m, exec (.putRegion (some b) (.whole eb)) s = .next (s.setMgmt m) ∧ m.answers 0x13 [])
        ∧ (¬ (e.valid = true ∧ early) ∧ fail5 →
          ∃ m, exec (.putRegion (some b) (.whole eb)) s = .next (s.setMgmt m) ∧ m.answers 0x11 [])
        ∧ (¬ (e.valid = true ∧ early) ∧ ¬ fail5 ∧ fail6 →
          ∃ m, exec (.putRegion (some b) (.whole eb)) s = .next (s.setMgmt m) ∧ m.answers 0x14 [])
        ∧ (¬ (e.valid = true ∧ early) ∧ ¬ fail5 ∧ ¬ fail6 →
          ∃ m, exec (.putRegion (some b) (.whole eb)) s = .next ((s.setMgmt m).setTable
              { s.table with entries := s.table.entries.set i e.stored }) ∧ m.answers 0x00 [])

/-- R4, R171, R181, R182, R199: MASK sets the live alert mask and re-evaluates ALERT#; SET DEFAULT sets the live default
class for the codes of OPEN and READONLY and answers BAD_ARG for any other. -/
def Obligations.MaskAndDefaultTakeEffect : Prop :=
  ∀ s : State, s.awaitsCommand = true → s.ctrl.opState ∈ [OpState.running, .faulted] →
    (∀ high low : Byte, ∃ m, exec (.mask (some high) (some low)) s =
          .next (((s.setMgmt m).setTable { s.table with mask := high ++ low }).setEvents
            { s.events with alert := alertLevel (high ++ low) s.events.queue }) ∧ m.answers 0x00 [])
      ∧ (∃ m, exec (.setDefault (some 0x00)) s =
          .next ((s.setMgmt m).setTable { s.table with defaultClass := .openClass }) ∧ m.answers 0x00 [])
      ∧ (∃ m, exec (.setDefault (some 0x02)) s =
          .next ((s.setMgmt m).setTable { s.table with defaultClass := .readonly }) ∧ m.answers 0x00 [])
      ∧ ∀ code : Byte, code ≠ 0x00 → code ≠ 0x02 →
          ∃ m, exec (.setDefault (some code)) s = .next (s.setMgmt m) ∧ m.answers 0x20 []

/-- R43, R44, R52, R55, R160, R167: STORE PROFILE in RUNNING builds the profile image in the lowest FREE slot, QUEUED as a
group of one, and counts it; a write in the slot hold that it leaves without a FREE slot stays held (R52); with no slot FREE it answers NO_SLOT and changes nothing, and in every other state NOT_NOW. -/
def Obligations.StoreProfileQueuesImage : Prop :=
  (∀ s : State, s.awaitsCommand = true → s.ctrl.opState ≠ .running →
      ∃ m, exec .storeProfile s = .next (s.setMgmt m) ∧ m.answers 0x10 [])
  ∧ ∀ s : State, s.awaitsCommand = true → s.ctrl.opState = .running →
    (∀ i : Fin 8, (s.slot i).state = .free → (∀ k : Fin 8, k < i → (s.slot k).state ≠ .free) →
        s.host.hold ≠ some .slot →
        ∃ m g x, exec .storeProfile s = .next (((s.setMgmt m).setStage g).setCtrl
            { s.ctrl with lastCount := s.ctrl.lastCount + 1 }).grant
          ∧ m.answers 0x00 []
          ∧ g.slots[i] = x ∧ (∀ k : Fin 8, k ≠ i → g.slots[k] = s.slot k)
          ∧ x.state = .queued ∧ x.region = .profile ∧ x.length = 72 ∧ x.openNumber = s.stage.openCounter
          ∧ x.home = some (toAddr (s.base + 32)) ∧ x.waitsOn = none ∧ x.group = some i
          ∧ (∀ k, k < 72 → x.written.getLsbD k = true)
          ∧ (∀ k, k < 72 → x.byte k = byteAt (profileImage (s.ctrl.lastCount + 1) s.table.defaultClass
              s.table.mask s.table.entries) k)
          ∧ g.queue = s.stage.queue ++ [{ tag := i, slots := [i] }]
          ∧ g.openCounter = s.stage.openCounter + 1 ∧ g.held = s.stage.held ∧ g.chain = s.stage.chain)
      ∧ (∀ (i : Fin 8) (r : RecordRef), (s.slot i).state = .free → (∀ k : Fin 8, k ≠ i → (s.slot k).state ≠ .free) →
          s.holdsForSlot → (s.lookup s.host.addr.toNat).ref = some r →
          (∀ k : Fin 8, (s.slot k).state = .filling → (s.slot k).ofRecord r.region r.home = false) →
          ∃ t, exec .storeProfile s = .next t ∧ t.mgmt.answers 0x00 []
            ∧ (t.slot i).state = .queued ∧ (t.slot i).region = .profile
            ∧ t.host.phase = .holding ∧ t.host.hold = some .slot ∧ t.host.addr = s.host.addr
            ∧ t.host.data = s.host.data ∧ t.events = s.events)
      ∧ ((∀ k : Fin 8, (s.slot k).state ≠ .free) →
          ∃ m, exec .storeProfile s = .next (s.setMgmt m) ∧ m.answers 0x12 [])

/-- R19, R29, R102, R134, R161, R166: LOAD PROFILE in RUNNING with every slot FREE enters RELOADING with an empty table,
and is BUSY_LIVE otherwise; FORMAT in LOCKED without one in progress begins with the write of 00h at journal offset 0. -/
def Obligations.LoadProfileAndFormatBegin : Prop :=
  (∀ s : State, s.awaitsCommand = true → s.ctrl.opState = .running →
      ((∀ i : Fin 8, (s.slot i).state = .free) →
          ∃ m tab t, exec .loadProfile s = .next t
            ∧ t = (((s.setMgmt m).setTable tab).setCtrl
              { s.ctrl with opState := .reloading, hrsto := false, loader := [] }).grant
            ∧ m.answers 0x00 [] ∧ (∀ i : Fin 8, tab.entries[i] = RegionEntry.invalid)
            ∧ tab.mask = s.table.mask ∧ tab.defaultClass = s.table.defaultClass
            ∧ (s.port.inFlight = none → s.host.phase ≠ .waiting →
                t.port.inFlight = some { owner := .system, addr := s.base + 32, op := .read }))
        ∧ ((∃ i : Fin 8, (s.slot i).state ≠ .free) →
          ∃ m, exec .loadProfile s = .next (s.setMgmt m) ∧ m.answers 0x11 []))
    ∧ ∀ s : State, s.awaitsCommand = true → s.ctrl.opState = .locked → s.ctrl.format = none →
        ∃ m t, exec .format s = .next t
          ∧ t = ((s.setMgmt m).setCtrl { s.ctrl with format := some 0 }).grant
          ∧ m.answers 0x00 []
          ∧ (s.port.inFlight = none → s.host.phase ≠ .waiting →
              t.port.inFlight = some { owner := .system, addr := s.base + 128, op := .write 0x00 })

/-- R124, R126, R127, R128, R149: RESUME in FAULTED returns the part to RUNNING with retry counts 0 and cause none; the
Writer and the Applier go on as the tables say, and after a recovery fault the clearing writes begin at the tail. In every
other state it answers NOT_NOW and changes nothing. An engine whose access of the entry to FAULTED is still in flight at
RESUME goes on when that access completes, which logs nothing if it compares unequal (the model's reading, log 32). -/
def Obligations.ResumeRestartsEngines : Prop :=
  (∀ s : State, s.awaitsCommand = true → s.ctrl.opState ≠ .faulted →
      ∃ m, exec .resume s = .next (s.setMgmt m) ∧ m.answers 0x10 [])
  ∧ (∀ s : State, s.awaitsCommand = true → s.ctrl.opState = .faulted →
    ∃ t, exec .resume s = .next t ∧ t.mgmt.answers 0x00 []
      ∧ t.ctrl = { s.ctrl with opState := .running, hrsto := false, cause := .noCause }
      ∧ t.writer.retry = 0 ∧ t.applier.retry = 0
      ∧ t.writer.group = s.writer.group ∧ t.writer.length = s.writer.length ∧ t.writer.pos = s.writer.pos
      ∧ t.writer.seq = s.writer.seq ∧ t.writer.check = s.writer.check ∧ t.writer.padAt = s.writer.padAt
      ∧ (s.writer.phase = .idle → t.writer.phase = .idle) ∧ (s.writer.phase = .place → t.writer.phase = .place)
      ∧ (s.writer.phase = .merge → t.writer.phase = .merge ∨ t.writer.phase = .place)
      ∧ (s.writer.phase ≠ .merge → t.stage = s.stage)
      ∧ (s.applier.phase = .idle → t.applier.phase = .idle)
      ∧ ((∀ a, s.port.inFlight = some a → a.owner ≠ .requester .writer) →
          t.writer.resuming = false
            ∧ (s.writer.phase ∈ [WriterPhase.write, .verify, .mark] → t.writer.phase = .write ∧ t.writer.idx = 0))
      ∧ (∀ a, s.port.inFlight = some a → a.owner = .requester .writer →
          s.writer.phase ∈ [WriterPhase.write, .verify, .mark] →
            t.writer.resuming = true ∧ t.writer.phase = s.writer.phase ∧ t.writer.idx = s.writer.idx)
      ∧ ((∀ a, s.port.inFlight = some a → a.owner ≠ .requester .applier) →
          t.applier.resuming = false
            ∧ (s.applier.phase = .home → t.applier.phase = .home ∧ t.applier.seg = 0 ∧ t.applier.idx = 0)
            ∧ (s.applier.phase ∈ [ApplierPhase.retire, .anchor] →
              t.applier.phase = s.applier.phase ∧ t.applier.idx = 0))
      ∧ (∀ a, s.port.inFlight = some a → a.owner = .requester .applier →
          s.applier.phase ≠ .idle → t.applier = { s.applier with retry := 0, resuming := true })
      ∧ (s.ctrl.cause = .recovery → t.writer.clearing = s.journalLength - s.journal.held
          ∧ t.writer.clearAt = s.journal.tail % s.journalLength)
      ∧ (s.ctrl.cause ≠ .recovery → t.writer.clearing = s.writer.clearing)
      ∧ t.journal = s.journal ∧ t.table = s.table ∧ t.events = s.events ∧ t.mem = s.mem
      ∧ t.pins = s.pins ∧ t.pending = s.pending)
  ∧ ∀ (s : State) (a : Access) (m : MemStep) (ord : Order), s.supply = true → s.port.inFlight = some a →
      a.addr < memorySize s.ctrl.straps → s.host.hold ≠ some .slot →
      (a.owner = .requester .writer → s.writer.phase ∈ [WriterPhase.write, .verify, .mark] →
          s.writer.resuming = true → s.writerProgram[s.writer.idx]? = some m →
          (s.writer.phase = .mark →
            s.writer.idx + 1 < s.writerProgram.length ∨ m.verify = true ∧ s.accessByte a ≠ m.byte) →
          exec (.memoryAccessComplete .ok ord) s = .next (((s.accessDone a).setWriter
            { s.writer with phase := .write, idx := 0, resuming := false }).grantBy ord))
        ∧ (a.owner = .requester .applier → s.applier.phase ∈ [ApplierPhase.home, .retire, .anchor] →
          s.applier.resuming = true → s.applierProgram[s.applier.idx]? = some m →
          s.applier.idx + 1 < s.applierProgram.length ∨ m.verify = true ∧ s.accessByte a ≠ m.byte →
          exec (.memoryAccessComplete .ok ord) s = .next (((s.accessDone a).setApplier
            { s.applier with
              seg := (if s.applier.phase = .home then 0 else s.applier.seg), idx := 0, resuming := false }).grantBy ord))

/-- R45, R52, R57, R76, R77: DISCARD HELD frees every slot on the held list of its trigger, empties the list, answers the
number and logs one SLOTS_DISCARDED when it is not 0; a write in the slot hold takes the lowest freed slot; an index above
7 is BAD_ARG. -/
def Obligations.DiscardHeldFreesList : Prop :=
  ∀ s : State, s.awaitsCommand = true → s.ctrl.opState ∈ [OpState.running, .faulted] →
    (∀ (b : Byte) (t : Fin 8), b.toNat = t.val → s.host.hold ≠ some .slot →
        ∃ m g e, exec (.discardHeld (some b)) s = .next (((s.setMgmt m).setStage g).setEvents e).grant
          ∧ m.answers 0x00 [BitVec.ofNat 8 s.stage.held[t].length]
          ∧ (∀ i ∈ s.stage.held[t], g.slots[i] = Slot.cleared (s.slot i).image)
          ∧ (∀ i : Fin 8, i ∉ s.stage.held[t] → g.slots[i] = s.slot i)
          ∧ g.held[t] = [] ∧ (∀ k : Fin 8, k ≠ t → g.held[k] = s.stage.held[k])
          ∧ g.queue = s.stage.queue ∧ g.openCounter = s.stage.openCounter
          ∧ g.chain = s.stage.chain.filter (fun i => decide (i ∉ s.stage.held[t]))
          ∧ (s.stage.held[t] = [] → e = s.events)
          ∧ (s.stage.held[t] ≠ [] → e = (s.events.arrive
              { kind := .slotsDiscarded, detail := 0, region := some t, address := none,
                count := BitVec.ofNat 8 s.stage.held[t].length }).evaluate s.table.mask))
      ∧ (∀ (b : Byte) (t : Fin 8), b.toNat = t.val → s.holdsForSlot → s.stage.held[t] ≠ [] →
        ∃ u, exec (.discardHeld (some b)) s = .next u
          ∧ u.mgmt.answers 0x00 [BitVec.ofNat 8 s.stage.held[t].length]
          ∧ s.heldWriteServed u fun i => i ∈ s.stage.held[t] ∨ (s.slot i).state = .free)
      ∧ ∀ b : Byte, 8 ≤ b.toNat →
          ∃ m, exec (.discardHeld (some b)) s = .next (s.setMgmt m) ∧ m.answers 0x20 [0xFF]
end

