-- ==== Sys2Proof/Laws/State.lean ====
section
/-! SUPPORT. One lemma per field per update of `State`: what each `State.set…` writes and what it leaves. -/

namespace Sys2Proof.Machine

section
variable (s : State) (x : List Instr)
@[simp] theorem State.setPending_pending : (s.setPending x).pending = x := rfl
@[simp] theorem State.setPending_supply : (s.setPending x).supply = s.supply := rfl
@[simp] theorem State.setPending_pins : (s.setPending x).pins = s.pins := rfl
@[simp] theorem State.setPending_ctrl : (s.setPending x).ctrl = s.ctrl := rfl
@[simp] theorem State.setPending_table : (s.setPending x).table = s.table := rfl
@[simp] theorem State.setPending_stage : (s.setPending x).stage = s.stage := rfl
@[simp] theorem State.setPending_journal : (s.setPending x).journal = s.journal := rfl
@[simp] theorem State.setPending_writer : (s.setPending x).writer = s.writer := rfl
@[simp] theorem State.setPending_applier : (s.setPending x).applier = s.applier := rfl
@[simp] theorem State.setPending_host : (s.setPending x).host = s.host := rfl
@[simp] theorem State.setPending_port : (s.setPending x).port = s.port := rfl
@[simp] theorem State.setPending_events : (s.setPending x).events = s.events := rfl
@[simp] theorem State.setPending_mgmt : (s.setPending x).mgmt = s.mgmt := rfl
@[simp] theorem State.setPending_mem : (s.setPending x).mem = s.mem := rfl
@[simp] theorem State.setPending_freeDraws : (s.setPending x).freeDraws = s.freeDraws := rfl
end

section
variable (s : State) (x : Bool)
@[simp] theorem State.setSupply_pending : (s.setSupply x).pending = s.pending := rfl
@[simp] theorem State.setSupply_supply : (s.setSupply x).supply = x := rfl
@[simp] theorem State.setSupply_pins : (s.setSupply x).pins = s.pins := rfl
@[simp] theorem State.setSupply_ctrl : (s.setSupply x).ctrl = s.ctrl := rfl
@[simp] theorem State.setSupply_table : (s.setSupply x).table = s.table := rfl
@[simp] theorem State.setSupply_stage : (s.setSupply x).stage = s.stage := rfl
@[simp] theorem State.setSupply_journal : (s.setSupply x).journal = s.journal := rfl
@[simp] theorem State.setSupply_writer : (s.setSupply x).writer = s.writer := rfl
@[simp] theorem State.setSupply_applier : (s.setSupply x).applier = s.applier := rfl
@[simp] theorem State.setSupply_host : (s.setSupply x).host = s.host := rfl
@[simp] theorem State.setSupply_port : (s.setSupply x).port = s.port := rfl
@[simp] theorem State.setSupply_events : (s.setSupply x).events = s.events := rfl
@[simp] theorem State.setSupply_mgmt : (s.setSupply x).mgmt = s.mgmt := rfl
@[simp] theorem State.setSupply_mem : (s.setSupply x).mem = s.mem := rfl
@[simp] theorem State.setSupply_freeDraws : (s.setSupply x).freeDraws = s.freeDraws := rfl
end

section
variable (s : State) (x : Pins)
@[simp] theorem State.setPins_pending : (s.setPins x).pending = s.pending := rfl
@[simp] theorem State.setPins_supply : (s.setPins x).supply = s.supply := rfl
@[simp] theorem State.setPins_pins : (s.setPins x).pins = x := rfl
@[simp] theorem State.setPins_ctrl : (s.setPins x).ctrl = s.ctrl := rfl
@[simp] theorem State.setPins_table : (s.setPins x).table = s.table := rfl
@[simp] theorem State.setPins_stage : (s.setPins x).stage = s.stage := rfl
@[simp] theorem State.setPins_journal : (s.setPins x).journal = s.journal := rfl
@[simp] theorem State.setPins_writer : (s.setPins x).writer = s.writer := rfl
@[simp] theorem State.setPins_applier : (s.setPins x).applier = s.applier := rfl
@[simp] theorem State.setPins_host : (s.setPins x).host = s.host := rfl
@[simp] theorem State.setPins_port : (s.setPins x).port = s.port := rfl
@[simp] theorem State.setPins_events : (s.setPins x).events = s.events := rfl
@[simp] theorem State.setPins_mgmt : (s.setPins x).mgmt = s.mgmt := rfl
@[simp] theorem State.setPins_mem : (s.setPins x).mem = s.mem := rfl
@[simp] theorem State.setPins_freeDraws : (s.setPins x).freeDraws = s.freeDraws := rfl
end

section
variable (s : State) (x : Controller)
@[simp] theorem State.setCtrl_pending : (s.setCtrl x).pending = s.pending := rfl
@[simp] theorem State.setCtrl_supply : (s.setCtrl x).supply = s.supply := rfl
@[simp] theorem State.setCtrl_pins : (s.setCtrl x).pins = s.pins := rfl
@[simp] theorem State.setCtrl_ctrl : (s.setCtrl x).ctrl = x := rfl
@[simp] theorem State.setCtrl_table : (s.setCtrl x).table = s.table := rfl
@[simp] theorem State.setCtrl_stage : (s.setCtrl x).stage = s.stage := rfl
@[simp] theorem State.setCtrl_journal : (s.setCtrl x).journal = s.journal := rfl
@[simp] theorem State.setCtrl_writer : (s.setCtrl x).writer = s.writer := rfl
@[simp] theorem State.setCtrl_applier : (s.setCtrl x).applier = s.applier := rfl
@[simp] theorem State.setCtrl_host : (s.setCtrl x).host = s.host := rfl
@[simp] theorem State.setCtrl_port : (s.setCtrl x).port = s.port := rfl
@[simp] theorem State.setCtrl_events : (s.setCtrl x).events = s.events := rfl
@[simp] theorem State.setCtrl_mgmt : (s.setCtrl x).mgmt = s.mgmt := rfl
@[simp] theorem State.setCtrl_mem : (s.setCtrl x).mem = s.mem := rfl
@[simp] theorem State.setCtrl_freeDraws : (s.setCtrl x).freeDraws = s.freeDraws := rfl
end

section
variable (s : State) (x : RegionTable)
@[simp] theorem State.setTable_pending : (s.setTable x).pending = s.pending := rfl
@[simp] theorem State.setTable_supply : (s.setTable x).supply = s.supply := rfl
@[simp] theorem State.setTable_pins : (s.setTable x).pins = s.pins := rfl
@[simp] theorem State.setTable_ctrl : (s.setTable x).ctrl = s.ctrl := rfl
@[simp] theorem State.setTable_table : (s.setTable x).table = x := rfl
@[simp] theorem State.setTable_stage : (s.setTable x).stage = s.stage := rfl
@[simp] theorem State.setTable_journal : (s.setTable x).journal = s.journal := rfl
@[simp] theorem State.setTable_writer : (s.setTable x).writer = s.writer := rfl
@[simp] theorem State.setTable_applier : (s.setTable x).applier = s.applier := rfl
@[simp] theorem State.setTable_host : (s.setTable x).host = s.host := rfl
@[simp] theorem State.setTable_port : (s.setTable x).port = s.port := rfl
@[simp] theorem State.setTable_events : (s.setTable x).events = s.events := rfl
@[simp] theorem State.setTable_mgmt : (s.setTable x).mgmt = s.mgmt := rfl
@[simp] theorem State.setTable_mem : (s.setTable x).mem = s.mem := rfl
@[simp] theorem State.setTable_freeDraws : (s.setTable x).freeDraws = s.freeDraws := rfl
end

section
variable (s : State) (x : Staging)
@[simp] theorem State.setStage_pending : (s.setStage x).pending = s.pending := rfl
@[simp] theorem State.setStage_supply : (s.setStage x).supply = s.supply := rfl
@[simp] theorem State.setStage_pins : (s.setStage x).pins = s.pins := rfl
@[simp] theorem State.setStage_ctrl : (s.setStage x).ctrl = s.ctrl := rfl
@[simp] theorem State.setStage_table : (s.setStage x).table = s.table := rfl
@[simp] theorem State.setStage_stage : (s.setStage x).stage = x := rfl
@[simp] theorem State.setStage_journal : (s.setStage x).journal = s.journal := rfl
@[simp] theorem State.setStage_writer : (s.setStage x).writer = s.writer := rfl
@[simp] theorem State.setStage_applier : (s.setStage x).applier = s.applier := rfl
@[simp] theorem State.setStage_host : (s.setStage x).host = s.host := rfl
@[simp] theorem State.setStage_port : (s.setStage x).port = s.port := rfl
@[simp] theorem State.setStage_events : (s.setStage x).events = s.events := rfl
@[simp] theorem State.setStage_mgmt : (s.setStage x).mgmt = s.mgmt := rfl
@[simp] theorem State.setStage_mem : (s.setStage x).mem = s.mem := rfl
@[simp] theorem State.setStage_freeDraws : (s.setStage x).freeDraws = s.freeDraws := rfl
end

section
variable (s : State) (x : Journal)
@[simp] theorem State.setJournal_pending : (s.setJournal x).pending = s.pending := rfl
@[simp] theorem State.setJournal_supply : (s.setJournal x).supply = s.supply := rfl
@[simp] theorem State.setJournal_pins : (s.setJournal x).pins = s.pins := rfl
@[simp] theorem State.setJournal_ctrl : (s.setJournal x).ctrl = s.ctrl := rfl
@[simp] theorem State.setJournal_table : (s.setJournal x).table = s.table := rfl
@[simp] theorem State.setJournal_stage : (s.setJournal x).stage = s.stage := rfl
@[simp] theorem State.setJournal_journal : (s.setJournal x).journal = x := rfl
@[simp] theorem State.setJournal_writer : (s.setJournal x).writer = s.writer := rfl
@[simp] theorem State.setJournal_applier : (s.setJournal x).applier = s.applier := rfl
@[simp] theorem State.setJournal_host : (s.setJournal x).host = s.host := rfl
@[simp] theorem State.setJournal_port : (s.setJournal x).port = s.port := rfl
@[simp] theorem State.setJournal_events : (s.setJournal x).events = s.events := rfl
@[simp] theorem State.setJournal_mgmt : (s.setJournal x).mgmt = s.mgmt := rfl
@[simp] theorem State.setJournal_mem : (s.setJournal x).mem = s.mem := rfl
@[simp] theorem State.setJournal_freeDraws : (s.setJournal x).freeDraws = s.freeDraws := rfl
end

section
variable (s : State) (x : Writer)
@[simp] theorem State.setWriter_pending : (s.setWriter x).pending = s.pending := rfl
@[simp] theorem State.setWriter_supply : (s.setWriter x).supply = s.supply := rfl
@[simp] theorem State.setWriter_pins : (s.setWriter x).pins = s.pins := rfl
@[simp] theorem State.setWriter_ctrl : (s.setWriter x).ctrl = s.ctrl := rfl
@[simp] theorem State.setWriter_table : (s.setWriter x).table = s.table := rfl
@[simp] theorem State.setWriter_stage : (s.setWriter x).stage = s.stage := rfl
@[simp] theorem State.setWriter_journal : (s.setWriter x).journal = s.journal := rfl
@[simp] theorem State.setWriter_writer : (s.setWriter x).writer = x := rfl
@[simp] theorem State.setWriter_applier : (s.setWriter x).applier = s.applier := rfl
@[simp] theorem State.setWriter_host : (s.setWriter x).host = s.host := rfl
@[simp] theorem State.setWriter_port : (s.setWriter x).port = s.port := rfl
@[simp] theorem State.setWriter_events : (s.setWriter x).events = s.events := rfl
@[simp] theorem State.setWriter_mgmt : (s.setWriter x).mgmt = s.mgmt := rfl
@[simp] theorem State.setWriter_mem : (s.setWriter x).mem = s.mem := rfl
@[simp] theorem State.setWriter_freeDraws : (s.setWriter x).freeDraws = s.freeDraws := rfl
end

section
variable (s : State) (x : Applier)
@[simp] theorem State.setApplier_pending : (s.setApplier x).pending = s.pending := rfl
@[simp] theorem State.setApplier_supply : (s.setApplier x).supply = s.supply := rfl
@[simp] theorem State.setApplier_pins : (s.setApplier x).pins = s.pins := rfl
@[simp] theorem State.setApplier_ctrl : (s.setApplier x).ctrl = s.ctrl := rfl
@[simp] theorem State.setApplier_table : (s.setApplier x).table = s.table := rfl
@[simp] theorem State.setApplier_stage : (s.setApplier x).stage = s.stage := rfl
@[simp] theorem State.setApplier_journal : (s.setApplier x).journal = s.journal := rfl
@[simp] theorem State.setApplier_writer : (s.setApplier x).writer = s.writer := rfl
@[simp] theorem State.setApplier_applier : (s.setApplier x).applier = x := rfl
@[simp] theorem State.setApplier_host : (s.setApplier x).host = s.host := rfl
@[simp] theorem State.setApplier_port : (s.setApplier x).port = s.port := rfl
@[simp] theorem State.setApplier_events : (s.setApplier x).events = s.events := rfl
@[simp] theorem State.setApplier_mgmt : (s.setApplier x).mgmt = s.mgmt := rfl
@[simp] theorem State.setApplier_mem : (s.setApplier x).mem = s.mem := rfl
@[simp] theorem State.setApplier_freeDraws : (s.setApplier x).freeDraws = s.freeDraws := rfl
end

section
variable (s : State) (x : HostPort)
@[simp] theorem State.setHost_pending : (s.setHost x).pending = s.pending := rfl
@[simp] theorem State.setHost_supply : (s.setHost x).supply = s.supply := rfl
@[simp] theorem State.setHost_pins : (s.setHost x).pins = s.pins := rfl
@[simp] theorem State.setHost_ctrl : (s.setHost x).ctrl = s.ctrl := rfl
@[simp] theorem State.setHost_table : (s.setHost x).table = s.table := rfl
@[simp] theorem State.setHost_stage : (s.setHost x).stage = s.stage := rfl
@[simp] theorem State.setHost_journal : (s.setHost x).journal = s.journal := rfl
@[simp] theorem State.setHost_writer : (s.setHost x).writer = s.writer := rfl
@[simp] theorem State.setHost_applier : (s.setHost x).applier = s.applier := rfl
@[simp] theorem State.setHost_host : (s.setHost x).host = x := rfl
@[simp] theorem State.setHost_port : (s.setHost x).port = s.port := rfl
@[simp] theorem State.setHost_events : (s.setHost x).events = s.events := rfl
@[simp] theorem State.setHost_mgmt : (s.setHost x).mgmt = s.mgmt := rfl
@[simp] theorem State.setHost_mem : (s.setHost x).mem = s.mem := rfl
@[simp] theorem State.setHost_freeDraws : (s.setHost x).freeDraws = s.freeDraws := rfl
end

section
variable (s : State) (x : MemPort)
@[simp] theorem State.setPort_pending : (s.setPort x).pending = s.pending := rfl
@[simp] theorem State.setPort_supply : (s.setPort x).supply = s.supply := rfl
@[simp] theorem State.setPort_pins : (s.setPort x).pins = s.pins := rfl
@[simp] theorem State.setPort_ctrl : (s.setPort x).ctrl = s.ctrl := rfl
@[simp] theorem State.setPort_table : (s.setPort x).table = s.table := rfl
@[simp] theorem State.setPort_stage : (s.setPort x).stage = s.stage := rfl
@[simp] theorem State.setPort_journal : (s.setPort x).journal = s.journal := rfl
@[simp] theorem State.setPort_writer : (s.setPort x).writer = s.writer := rfl
@[simp] theorem State.setPort_applier : (s.setPort x).applier = s.applier := rfl
@[simp] theorem State.setPort_host : (s.setPort x).host = s.host := rfl
@[simp] theorem State.setPort_port : (s.setPort x).port = x := rfl
@[simp] theorem State.setPort_events : (s.setPort x).events = s.events := rfl
@[simp] theorem State.setPort_mgmt : (s.setPort x).mgmt = s.mgmt := rfl
@[simp] theorem State.setPort_mem : (s.setPort x).mem = s.mem := rfl
@[simp] theorem State.setPort_freeDraws : (s.setPort x).freeDraws = s.freeDraws := rfl
end

section
variable (s : State) (x : EventBlock)
@[simp] theorem State.setEvents_pending : (s.setEvents x).pending = s.pending := rfl
@[simp] theorem State.setEvents_supply : (s.setEvents x).supply = s.supply := rfl
@[simp] theorem State.setEvents_pins : (s.setEvents x).pins = s.pins := rfl
@[simp] theorem State.setEvents_ctrl : (s.setEvents x).ctrl = s.ctrl := rfl
@[simp] theorem State.setEvents_table : (s.setEvents x).table = s.table := rfl
@[simp] theorem State.setEvents_stage : (s.setEvents x).stage = s.stage := rfl
@[simp] theorem State.setEvents_journal : (s.setEvents x).journal = s.journal := rfl
@[simp] theorem State.setEvents_writer : (s.setEvents x).writer = s.writer := rfl
@[simp] theorem State.setEvents_applier : (s.setEvents x).applier = s.applier := rfl
@[simp] theorem State.setEvents_host : (s.setEvents x).host = s.host := rfl
@[simp] theorem State.setEvents_port : (s.setEvents x).port = s.port := rfl
@[simp] theorem State.setEvents_events : (s.setEvents x).events = x := rfl
@[simp] theorem State.setEvents_mgmt : (s.setEvents x).mgmt = s.mgmt := rfl
@[simp] theorem State.setEvents_mem : (s.setEvents x).mem = s.mem := rfl
@[simp] theorem State.setEvents_freeDraws : (s.setEvents x).freeDraws = s.freeDraws := rfl
end

section
variable (s : State) (x : MgmtPort)
@[simp] theorem State.setMgmt_pending : (s.setMgmt x).pending = s.pending := rfl
@[simp] theorem State.setMgmt_supply : (s.setMgmt x).supply = s.supply := rfl
@[simp] theorem State.setMgmt_pins : (s.setMgmt x).pins = s.pins := rfl
@[simp] theorem State.setMgmt_ctrl : (s.setMgmt x).ctrl = s.ctrl := rfl
@[simp] theorem State.setMgmt_table : (s.setMgmt x).table = s.table := rfl
@[simp] theorem State.setMgmt_stage : (s.setMgmt x).stage = s.stage := rfl
@[simp] theorem State.setMgmt_journal : (s.setMgmt x).journal = s.journal := rfl
@[simp] theorem State.setMgmt_writer : (s.setMgmt x).writer = s.writer := rfl
@[simp] theorem State.setMgmt_applier : (s.setMgmt x).applier = s.applier := rfl
@[simp] theorem State.setMgmt_host : (s.setMgmt x).host = s.host := rfl
@[simp] theorem State.setMgmt_port : (s.setMgmt x).port = s.port := rfl
@[simp] theorem State.setMgmt_events : (s.setMgmt x).events = s.events := rfl
@[simp] theorem State.setMgmt_mgmt : (s.setMgmt x).mgmt = x := rfl
@[simp] theorem State.setMgmt_mem : (s.setMgmt x).mem = s.mem := rfl
@[simp] theorem State.setMgmt_freeDraws : (s.setMgmt x).freeDraws = s.freeDraws := rfl
end

section
variable (s : State) (x : Memory)
@[simp] theorem State.setMem_pending : (s.setMem x).pending = s.pending := rfl
@[simp] theorem State.setMem_supply : (s.setMem x).supply = s.supply := rfl
@[simp] theorem State.setMem_pins : (s.setMem x).pins = s.pins := rfl
@[simp] theorem State.setMem_ctrl : (s.setMem x).ctrl = s.ctrl := rfl
@[simp] theorem State.setMem_table : (s.setMem x).table = s.table := rfl
@[simp] theorem State.setMem_stage : (s.setMem x).stage = s.stage := rfl
@[simp] theorem State.setMem_journal : (s.setMem x).journal = s.journal := rfl
@[simp] theorem State.setMem_writer : (s.setMem x).writer = s.writer := rfl
@[simp] theorem State.setMem_applier : (s.setMem x).applier = s.applier := rfl
@[simp] theorem State.setMem_host : (s.setMem x).host = s.host := rfl
@[simp] theorem State.setMem_port : (s.setMem x).port = s.port := rfl
@[simp] theorem State.setMem_events : (s.setMem x).events = s.events := rfl
@[simp] theorem State.setMem_mgmt : (s.setMem x).mgmt = s.mgmt := rfl
@[simp] theorem State.setMem_mem : (s.setMem x).mem = x := rfl
@[simp] theorem State.setMem_freeDraws : (s.setMem x).freeDraws = s.freeDraws := rfl
end

section
variable (s : State) (x : Nat)
@[simp] theorem State.setFreeDraws_pending : (s.setFreeDraws x).pending = s.pending := rfl
@[simp] theorem State.setFreeDraws_supply : (s.setFreeDraws x).supply = s.supply := rfl
@[simp] theorem State.setFreeDraws_pins : (s.setFreeDraws x).pins = s.pins := rfl
@[simp] theorem State.setFreeDraws_ctrl : (s.setFreeDraws x).ctrl = s.ctrl := rfl
@[simp] theorem State.setFreeDraws_table : (s.setFreeDraws x).table = s.table := rfl
@[simp] theorem State.setFreeDraws_stage : (s.setFreeDraws x).stage = s.stage := rfl
@[simp] theorem State.setFreeDraws_journal : (s.setFreeDraws x).journal = s.journal := rfl
@[simp] theorem State.setFreeDraws_writer : (s.setFreeDraws x).writer = s.writer := rfl
@[simp] theorem State.setFreeDraws_applier : (s.setFreeDraws x).applier = s.applier := rfl
@[simp] theorem State.setFreeDraws_host : (s.setFreeDraws x).host = s.host := rfl
@[simp] theorem State.setFreeDraws_port : (s.setFreeDraws x).port = s.port := rfl
@[simp] theorem State.setFreeDraws_events : (s.setFreeDraws x).events = s.events := rfl
@[simp] theorem State.setFreeDraws_mgmt : (s.setFreeDraws x).mgmt = s.mgmt := rfl
@[simp] theorem State.setFreeDraws_mem : (s.setFreeDraws x).mem = s.mem := rfl
@[simp] theorem State.setFreeDraws_freeDraws : (s.setFreeDraws x).freeDraws = x := rfl
end

/-! ## Updates of one field twice, or with what it holds; equality field by field -/

@[simp] theorem State.setPending_setPending (s : State) (x y : List Instr) : (s.setPending x).setPending y = s.setPending y := rfl
@[simp] theorem State.setPending_self (s : State) : s.setPending s.pending = s := rfl
@[simp] theorem State.setSupply_setSupply (s : State) (x y : Bool) : (s.setSupply x).setSupply y = s.setSupply y := rfl
@[simp] theorem State.setSupply_self (s : State) : s.setSupply s.supply = s := rfl
@[simp] theorem State.setPins_setPins (s : State) (x y : Pins) : (s.setPins x).setPins y = s.setPins y := rfl
@[simp] theorem State.setPins_self (s : State) : s.setPins s.pins = s := rfl
@[simp] theorem State.setCtrl_setCtrl (s : State) (x y : Controller) : (s.setCtrl x).setCtrl y = s.setCtrl y := rfl
@[simp] theorem State.setCtrl_self (s : State) : s.setCtrl s.ctrl = s := rfl
@[simp] theorem State.setTable_setTable (s : State) (x y : RegionTable) : (s.setTable x).setTable y = s.setTable y := rfl
@[simp] theorem State.setTable_self (s : State) : s.setTable s.table = s := rfl
@[simp] theorem State.setStage_setStage (s : State) (x y : Staging) : (s.setStage x).setStage y = s.setStage y := rfl
@[simp] theorem State.setStage_self (s : State) : s.setStage s.stage = s := rfl
@[simp] theorem State.setJournal_setJournal (s : State) (x y : Journal) : (s.setJournal x).setJournal y = s.setJournal y := rfl
@[simp] theorem State.setJournal_self (s : State) : s.setJournal s.journal = s := rfl
@[simp] theorem State.setWriter_setWriter (s : State) (x y : Writer) : (s.setWriter x).setWriter y = s.setWriter y := rfl
@[simp] theorem State.setWriter_self (s : State) : s.setWriter s.writer = s := rfl
@[simp] theorem State.setApplier_setApplier (s : State) (x y : Applier) : (s.setApplier x).setApplier y = s.setApplier y := rfl
@[simp] theorem State.setApplier_self (s : State) : s.setApplier s.applier = s := rfl
@[simp] theorem State.setHost_setHost (s : State) (x y : HostPort) : (s.setHost x).setHost y = s.setHost y := rfl
@[simp] theorem State.setHost_self (s : State) : s.setHost s.host = s := rfl
@[simp] theorem State.setPort_setPort (s : State) (x y : MemPort) : (s.setPort x).setPort y = s.setPort y := rfl
@[simp] theorem State.setPort_self (s : State) : s.setPort s.port = s := rfl
@[simp] theorem State.setEvents_setEvents (s : State) (x y : EventBlock) : (s.setEvents x).setEvents y = s.setEvents y := rfl
@[simp] theorem State.setEvents_self (s : State) : s.setEvents s.events = s := rfl
@[simp] theorem State.setMgmt_setMgmt (s : State) (x y : MgmtPort) : (s.setMgmt x).setMgmt y = s.setMgmt y := rfl
@[simp] theorem State.setMgmt_self (s : State) : s.setMgmt s.mgmt = s := rfl
@[simp] theorem State.setMem_setMem (s : State) (x y : Memory) : (s.setMem x).setMem y = s.setMem y := rfl
@[simp] theorem State.setMem_self (s : State) : s.setMem s.mem = s := rfl
@[simp] theorem State.setFreeDraws_setFreeDraws (s : State) (x y : Nat) : (s.setFreeDraws x).setFreeDraws y = s.setFreeDraws y := rfl
@[simp] theorem State.setFreeDraws_self (s : State) : s.setFreeDraws s.freeDraws = s := rfl

/-- Two states are equal when their fields are. -/
theorem State.ext_fields {s t : State} 
    (hpending : s.pending = t.pending) (hsupply : s.supply = t.supply) (hpins : s.pins = t.pins) 
    (hctrl : s.ctrl = t.ctrl) (htable : s.table = t.table) (hstage : s.stage = t.stage) 
    (hjournal : s.journal = t.journal) (hwriter : s.writer = t.writer) (happlier : s.applier = t.applier) 
    (hhost : s.host = t.host) (hport : s.port = t.port) (hevents : s.events = t.events) 
    (hmgmt : s.mgmt = t.mgmt) (hmem : s.mem = t.mem) (hfreeDraws : s.freeDraws = t.freeDraws) :
    s = t := by
  cases s; cases t; simp_all

end Sys2Proof.Machine
end

