-- ==== Sys2Proof/Laws/Ops.lean ====
section
/-! SUPPORT. What each shared operation of Machine/Ops leaves unchanged, once for each, and how far an anchor write moves the
head. -/

namespace Sys2Proof.Machine

/-- What `logEvent` leaves unchanged. -/
@[simp] theorem State.logEvent_frame (s : State) (r : EventReport) :
    (s.logEvent r).pending = s.pending
      ∧ (s.logEvent r).supply = s.supply
      ∧ (s.logEvent r).pins = s.pins
      ∧ (s.logEvent r).ctrl = s.ctrl
      ∧ (s.logEvent r).table = s.table
      ∧ (s.logEvent r).stage = s.stage
      ∧ (s.logEvent r).journal = s.journal
      ∧ (s.logEvent r).writer = s.writer
      ∧ (s.logEvent r).applier = s.applier
      ∧ (s.logEvent r).host = s.host
      ∧ (s.logEvent r).port = s.port
      ∧ (s.logEvent r).mgmt = s.mgmt
      ∧ (s.logEvent r).mem = s.mem
      ∧ (s.logEvent r).freeDraws = s.freeDraws := by
  simp [State.logEvent]

/-- What `enterState` leaves unchanged. -/
@[simp] theorem State.enterState_frame (s : State) (o : OpState) :
    (s.enterState o).pending = s.pending
      ∧ (s.enterState o).supply = s.supply
      ∧ (s.enterState o).pins = s.pins
      ∧ (s.enterState o).table = s.table
      ∧ (s.enterState o).stage = s.stage
      ∧ (s.enterState o).journal = s.journal
      ∧ (s.enterState o).writer = s.writer
      ∧ (s.enterState o).applier = s.applier
      ∧ (s.enterState o).host = s.host
      ∧ (s.enterState o).port = s.port
      ∧ (s.enterState o).events = s.events
      ∧ (s.enterState o).mgmt = s.mgmt
      ∧ (s.enterState o).mem = s.mem
      ∧ (s.enterState o).freeDraws = s.freeDraws
      ∧ (s.enterState o).ctrl.cause = s.ctrl.cause
      ∧ (s.enterState o).ctrl.straps = s.ctrl.straps
      ∧ (s.enterState o).ctrl.format = s.ctrl.format
      ∧ (s.enterState o).ctrl.loader = s.ctrl.loader := by
  simp [State.enterState]

/-- R97: an anchor write moves the head by at least one byte and at most the whole journal, to the new head. -/
theorem headAdvance_spec {j a b : Nat} (hj : 0 < j) (ha : a ≤ j) (hb : b ≤ j) :
    0 < headAdvance j a b ∧ headAdvance j a b ≤ j ∧ (a + headAdvance j a b) % j = b % j := by
  have h : 0 < headAdvance j a b ∧ headAdvance j a b ≤ j
      ∧ (a + headAdvance j a b = b ∨ a + headAdvance j a b = b + 1 * j ∨ a + headAdvance j a b = b + 2 * j) := by
    unfold headAdvance forwardDistance
    dsimp only
    (repeat' split) <;> omega
  obtain ⟨h0, hle, e | e | e⟩ := h
  · exact ⟨h0, hle, by rw [e]⟩
  · exact ⟨h0, hle, by rw [e, Nat.add_mul_mod_self_right]⟩
  · exact ⟨h0, hle, by rw [e, Nat.add_mul_mod_self_right]⟩

end Sys2Proof.Machine
end

