-- ==== Sys2Proof/Laws/HostPort.lean ====
section
/-! SUPPORT. What each shared operation of Machine/HostPort leaves unchanged, once for each. -/

namespace Sys2Proof.Machine

/-- What `answerRead` leaves unchanged. -/
@[simp] theorem State.answerRead_frame (s : State) (b : Byte) :
    (s.answerRead b).pending = s.pending
      ∧ (s.answerRead b).supply = s.supply
      ∧ (s.answerRead b).pins = s.pins
      ∧ (s.answerRead b).ctrl = s.ctrl
      ∧ (s.answerRead b).table = s.table
      ∧ (s.answerRead b).stage = s.stage
      ∧ (s.answerRead b).journal = s.journal
      ∧ (s.answerRead b).writer = s.writer
      ∧ (s.answerRead b).applier = s.applier
      ∧ (s.answerRead b).port = s.port
      ∧ (s.answerRead b).events = s.events
      ∧ (s.answerRead b).mgmt = s.mgmt
      ∧ (s.answerRead b).mem = s.mem
      ∧ (s.answerRead b).freeDraws = s.freeDraws
      ∧ (s.answerRead b).host.addr = s.host.addr
      ∧ (s.answerRead b).host.kind = s.host.kind
      ∧ (s.answerRead b).host.data = s.host.data := by
  simp [State.answerRead]

/-- What `answerWrite` leaves unchanged. -/
@[simp] theorem State.answerWrite_frame (s : State) :
    (s.answerWrite).pending = s.pending
      ∧ (s.answerWrite).supply = s.supply
      ∧ (s.answerWrite).pins = s.pins
      ∧ (s.answerWrite).ctrl = s.ctrl
      ∧ (s.answerWrite).table = s.table
      ∧ (s.answerWrite).stage = s.stage
      ∧ (s.answerWrite).journal = s.journal
      ∧ (s.answerWrite).writer = s.writer
      ∧ (s.answerWrite).applier = s.applier
      ∧ (s.answerWrite).port = s.port
      ∧ (s.answerWrite).events = s.events
      ∧ (s.answerWrite).mgmt = s.mgmt
      ∧ (s.answerWrite).mem = s.mem
      ∧ (s.answerWrite).freeDraws = s.freeDraws
      ∧ (s.answerWrite).host.addr = s.host.addr
      ∧ (s.answerWrite).host.kind = s.host.kind
      ∧ (s.answerWrite).host.data = s.host.data := by
  simp [State.answerWrite]

/-- What `postRequest` leaves unchanged. -/
@[simp] theorem State.postRequest_frame (s : State) :
    (s.postRequest).pending = s.pending
      ∧ (s.postRequest).supply = s.supply
      ∧ (s.postRequest).pins = s.pins
      ∧ (s.postRequest).ctrl = s.ctrl
      ∧ (s.postRequest).table = s.table
      ∧ (s.postRequest).stage = s.stage
      ∧ (s.postRequest).journal = s.journal
      ∧ (s.postRequest).writer = s.writer
      ∧ (s.postRequest).applier = s.applier
      ∧ (s.postRequest).port = s.port
      ∧ (s.postRequest).events = s.events
      ∧ (s.postRequest).mgmt = s.mgmt
      ∧ (s.postRequest).mem = s.mem
      ∧ (s.postRequest).freeDraws = s.freeDraws
      ∧ (s.postRequest).host.addr = s.host.addr
      ∧ (s.postRequest).host.kind = s.host.kind
      ∧ (s.postRequest).host.data = s.host.data := by
  simp [State.postRequest]

/-- What `holdCycle` leaves unchanged. -/
@[simp] theorem State.holdCycle_frame (s : State) (k : HoldKind) :
    (s.holdCycle k).pending = s.pending
      ∧ (s.holdCycle k).supply = s.supply
      ∧ (s.holdCycle k).pins = s.pins
      ∧ (s.holdCycle k).ctrl = s.ctrl
      ∧ (s.holdCycle k).table = s.table
      ∧ (s.holdCycle k).stage = s.stage
      ∧ (s.holdCycle k).journal = s.journal
      ∧ (s.holdCycle k).writer = s.writer
      ∧ (s.holdCycle k).applier = s.applier
      ∧ (s.holdCycle k).port = s.port
      ∧ (s.holdCycle k).events = s.events
      ∧ (s.holdCycle k).mgmt = s.mgmt
      ∧ (s.holdCycle k).mem = s.mem
      ∧ (s.holdCycle k).freeDraws = s.freeDraws
      ∧ (s.holdCycle k).host.addr = s.host.addr
      ∧ (s.holdCycle k).host.kind = s.host.kind
      ∧ (s.holdCycle k).host.data = s.host.data := by
  simp [State.holdCycle]

/-- What `writeDenied` leaves unchanged. -/
@[simp] theorem State.writeDenied_frame (s : State) (d : Byte) (r : Option (Fin 8)) :
    (s.writeDenied d r).pending = s.pending
      ∧ (s.writeDenied d r).supply = s.supply
      ∧ (s.writeDenied d r).pins = s.pins
      ∧ (s.writeDenied d r).ctrl = s.ctrl
      ∧ (s.writeDenied d r).table = s.table
      ∧ (s.writeDenied d r).stage = s.stage
      ∧ (s.writeDenied d r).journal = s.journal
      ∧ (s.writeDenied d r).writer = s.writer
      ∧ (s.writeDenied d r).applier = s.applier
      ∧ (s.writeDenied d r).host = s.host
      ∧ (s.writeDenied d r).port = s.port
      ∧ (s.writeDenied d r).mgmt = s.mgmt
      ∧ (s.writeDenied d r).mem = s.mem
      ∧ (s.writeDenied d r).freeDraws = s.freeDraws := by
  simp [State.writeDenied]

/-- What `serveHidden` leaves unchanged. -/
@[simp] theorem State.serveHidden_frame (s : State) (c : AddrClass) :
    (s.serveHidden c).pending = s.pending
      ∧ (s.serveHidden c).supply = s.supply
      ∧ (s.serveHidden c).pins = s.pins
      ∧ (s.serveHidden c).ctrl = s.ctrl
      ∧ (s.serveHidden c).table = s.table
      ∧ (s.serveHidden c).stage = s.stage
      ∧ (s.serveHidden c).journal = s.journal
      ∧ (s.serveHidden c).writer = s.writer
      ∧ (s.serveHidden c).applier = s.applier
      ∧ (s.serveHidden c).port = s.port
      ∧ (s.serveHidden c).mgmt = s.mgmt
      ∧ (s.serveHidden c).mem = s.mem
      ∧ (s.serveHidden c).freeDraws = s.freeDraws
      ∧ (s.serveHidden c).host.addr = s.host.addr
      ∧ (s.serveHidden c).host.kind = s.host.kind
      ∧ (s.serveHidden c).host.data = s.host.data := by
  unfold State.serveHidden
  split <;> simp

/-- What `groupLimit` leaves unchanged. -/
@[simp] theorem State.groupLimit_frame (s : State) (i t : Fin 8) :
    (s.groupLimit i t).pending = s.pending
      ∧ (s.groupLimit i t).supply = s.supply
      ∧ (s.groupLimit i t).pins = s.pins
      ∧ (s.groupLimit i t).ctrl = s.ctrl
      ∧ (s.groupLimit i t).table = s.table
      ∧ (s.groupLimit i t).stage = s.stage
      ∧ (s.groupLimit i t).journal = s.journal
      ∧ (s.groupLimit i t).writer = s.writer
      ∧ (s.groupLimit i t).applier = s.applier
      ∧ (s.groupLimit i t).host = s.host
      ∧ (s.groupLimit i t).port = s.port
      ∧ (s.groupLimit i t).mgmt = s.mgmt
      ∧ (s.groupLimit i t).mem = s.mem
      ∧ (s.groupLimit i t).freeDraws = s.freeDraws := by
  simp [State.groupLimit]

/-- What `closeSlot` leaves unchanged. -/
@[simp] theorem State.closeSlot_frame (s : State) (i : Fin 8) (r : RecordRef) :
    (s.closeSlot i r).pending = s.pending
      ∧ (s.closeSlot i r).supply = s.supply
      ∧ (s.closeSlot i r).pins = s.pins
      ∧ (s.closeSlot i r).ctrl = s.ctrl
      ∧ (s.closeSlot i r).table = s.table
      ∧ (s.closeSlot i r).journal = s.journal
      ∧ (s.closeSlot i r).writer = s.writer
      ∧ (s.closeSlot i r).applier = s.applier
      ∧ (s.closeSlot i r).host = s.host
      ∧ (s.closeSlot i r).port = s.port
      ∧ (s.closeSlot i r).mgmt = s.mgmt
      ∧ (s.closeSlot i r).mem = s.mem
      ∧ (s.closeSlot i r).freeDraws = s.freeDraws := by
  unfold State.closeSlot
  (repeat' split) <;> simp

/-- What `storeInto` leaves unchanged. -/
@[simp] theorem State.storeInto_frame (s : State) (i : Fin 8) (r : RecordRef) :
    (s.storeInto i r).pending = s.pending
      ∧ (s.storeInto i r).supply = s.supply
      ∧ (s.storeInto i r).pins = s.pins
      ∧ (s.storeInto i r).ctrl = s.ctrl
      ∧ (s.storeInto i r).table = s.table
      ∧ (s.storeInto i r).journal = s.journal
      ∧ (s.storeInto i r).writer = s.writer
      ∧ (s.storeInto i r).applier = s.applier
      ∧ (s.storeInto i r).port = s.port
      ∧ (s.storeInto i r).mgmt = s.mgmt
      ∧ (s.storeInto i r).mem = s.mem
      ∧ (s.storeInto i r).freeDraws = s.freeDraws
      ∧ (s.storeInto i r).host.addr = s.host.addr
      ∧ (s.storeInto i r).host.kind = s.host.kind
      ∧ (s.storeInto i r).host.data = s.host.data := by
  unfold State.storeInto
  split <;> simp

/-- What `stageFull` leaves unchanged. -/
@[simp] theorem State.stageFull_frame (s : State) (r : RecordRef) :
    (s.stageFull r).pending = s.pending
      ∧ (s.stageFull r).supply = s.supply
      ∧ (s.stageFull r).pins = s.pins
      ∧ (s.stageFull r).ctrl = s.ctrl
      ∧ (s.stageFull r).table = s.table
      ∧ (s.stageFull r).stage = s.stage
      ∧ (s.stageFull r).journal = s.journal
      ∧ (s.stageFull r).writer = s.writer
      ∧ (s.stageFull r).applier = s.applier
      ∧ (s.stageFull r).port = s.port
      ∧ (s.stageFull r).mgmt = s.mgmt
      ∧ (s.stageFull r).mem = s.mem
      ∧ (s.stageFull r).freeDraws = s.freeDraws
      ∧ (s.stageFull r).host.addr = s.host.addr
      ∧ (s.stageFull r).host.kind = s.host.kind
      ∧ (s.stageFull r).host.data = s.host.data := by
  simp [State.stageFull]

/-- What `stageWrite` leaves unchanged. -/
@[simp] theorem State.stageWrite_frame (s : State) (r : RecordRef) :
    (s.stageWrite r).pending = s.pending
      ∧ (s.stageWrite r).supply = s.supply
      ∧ (s.stageWrite r).pins = s.pins
      ∧ (s.stageWrite r).ctrl = s.ctrl
      ∧ (s.stageWrite r).table = s.table
      ∧ (s.stageWrite r).journal = s.journal
      ∧ (s.stageWrite r).writer = s.writer
      ∧ (s.stageWrite r).applier = s.applier
      ∧ (s.stageWrite r).port = s.port
      ∧ (s.stageWrite r).mgmt = s.mgmt
      ∧ (s.stageWrite r).mem = s.mem
      ∧ (s.stageWrite r).freeDraws = s.freeDraws
      ∧ (s.stageWrite r).host.addr = s.host.addr
      ∧ (s.stageWrite r).host.kind = s.host.kind
      ∧ (s.stageWrite r).host.data = s.host.data := by
  unfold State.stageWrite
  (repeat' split) <;> simp

/-- What `stageRead` leaves unchanged. -/
@[simp] theorem State.stageRead_frame (s : State) (r : RecordRef) :
    (s.stageRead r).pending = s.pending
      ∧ (s.stageRead r).supply = s.supply
      ∧ (s.stageRead r).pins = s.pins
      ∧ (s.stageRead r).ctrl = s.ctrl
      ∧ (s.stageRead r).table = s.table
      ∧ (s.stageRead r).stage = s.stage
      ∧ (s.stageRead r).journal = s.journal
      ∧ (s.stageRead r).writer = s.writer
      ∧ (s.stageRead r).applier = s.applier
      ∧ (s.stageRead r).port = s.port
      ∧ (s.stageRead r).events = s.events
      ∧ (s.stageRead r).mgmt = s.mgmt
      ∧ (s.stageRead r).mem = s.mem
      ∧ (s.stageRead r).freeDraws = s.freeDraws
      ∧ (s.stageRead r).host.addr = s.host.addr
      ∧ (s.stageRead r).host.kind = s.host.kind
      ∧ (s.stageRead r).host.data = s.host.data := by
  unfold State.stageRead
  split <;> simp

/-- What `serveRunning` leaves unchanged. -/
@[simp] theorem State.serveRunning_frame (s : State) (k : Lookup) :
    (s.serveRunning k).pending = s.pending
      ∧ (s.serveRunning k).supply = s.supply
      ∧ (s.serveRunning k).pins = s.pins
      ∧ (s.serveRunning k).ctrl = s.ctrl
      ∧ (s.serveRunning k).table = s.table
      ∧ (s.serveRunning k).journal = s.journal
      ∧ (s.serveRunning k).writer = s.writer
      ∧ (s.serveRunning k).applier = s.applier
      ∧ (s.serveRunning k).port = s.port
      ∧ (s.serveRunning k).mgmt = s.mgmt
      ∧ (s.serveRunning k).mem = s.mem
      ∧ (s.serveRunning k).freeDraws = s.freeDraws
      ∧ (s.serveRunning k).host.addr = s.host.addr
      ∧ (s.serveRunning k).host.kind = s.host.kind
      ∧ (s.serveRunning k).host.data = s.host.data := by
  unfold State.serveRunning
  (repeat' split) <;> simp

/-- What `serveFaulted` leaves unchanged. -/
@[simp] theorem State.serveFaulted_frame (s : State) (k : Lookup) :
    (s.serveFaulted k).pending = s.pending
      ∧ (s.serveFaulted k).supply = s.supply
      ∧ (s.serveFaulted k).pins = s.pins
      ∧ (s.serveFaulted k).ctrl = s.ctrl
      ∧ (s.serveFaulted k).table = s.table
      ∧ (s.serveFaulted k).journal = s.journal
      ∧ (s.serveFaulted k).writer = s.writer
      ∧ (s.serveFaulted k).applier = s.applier
      ∧ (s.serveFaulted k).port = s.port
      ∧ (s.serveFaulted k).mgmt = s.mgmt
      ∧ (s.serveFaulted k).mem = s.mem
      ∧ (s.serveFaulted k).freeDraws = s.freeDraws
      ∧ (s.serveFaulted k).host.addr = s.host.addr
      ∧ (s.serveFaulted k).host.kind = s.host.kind
      ∧ (s.serveFaulted k).host.data = s.host.data := by
  unfold State.serveFaulted
  split <;> simp

/-- What `serveLocked` leaves unchanged. -/
@[simp] theorem State.serveLocked_frame (s : State) (k : Lookup) :
    (s.serveLocked k).pending = s.pending
      ∧ (s.serveLocked k).supply = s.supply
      ∧ (s.serveLocked k).pins = s.pins
      ∧ (s.serveLocked k).ctrl = s.ctrl
      ∧ (s.serveLocked k).table = s.table
      ∧ (s.serveLocked k).journal = s.journal
      ∧ (s.serveLocked k).writer = s.writer
      ∧ (s.serveLocked k).applier = s.applier
      ∧ (s.serveLocked k).port = s.port
      ∧ (s.serveLocked k).mgmt = s.mgmt
      ∧ (s.serveLocked k).mem = s.mem
      ∧ (s.serveLocked k).freeDraws = s.freeDraws
      ∧ (s.serveLocked k).host.addr = s.host.addr
      ∧ (s.serveLocked k).host.kind = s.host.kind
      ∧ (s.serveLocked k).host.data = s.host.data := by
  unfold State.serveLocked
  split <;> simp

/-- What `serve` leaves unchanged. -/
@[simp] theorem State.serve_frame (s : State) :
    (s.serve).pending = s.pending
      ∧ (s.serve).supply = s.supply
      ∧ (s.serve).pins = s.pins
      ∧ (s.serve).ctrl = s.ctrl
      ∧ (s.serve).table = s.table
      ∧ (s.serve).journal = s.journal
      ∧ (s.serve).writer = s.writer
      ∧ (s.serve).applier = s.applier
      ∧ (s.serve).port = s.port
      ∧ (s.serve).mgmt = s.mgmt
      ∧ (s.serve).mem = s.mem
      ∧ (s.serve).freeDraws = s.freeDraws
      ∧ (s.serve).host.addr = s.host.addr
      ∧ (s.serve).host.kind = s.host.kind
      ∧ (s.serve).host.data = s.host.data := by
  unfold State.serve
  (repeat' split) <;> simp

/-- What `endStateHold` leaves unchanged. -/
@[simp] theorem State.endStateHold_frame (s : State) :
    (s.endStateHold).pending = s.pending
      ∧ (s.endStateHold).supply = s.supply
      ∧ (s.endStateHold).pins = s.pins
      ∧ (s.endStateHold).ctrl = s.ctrl
      ∧ (s.endStateHold).table = s.table
      ∧ (s.endStateHold).journal = s.journal
      ∧ (s.endStateHold).writer = s.writer
      ∧ (s.endStateHold).applier = s.applier
      ∧ (s.endStateHold).port = s.port
      ∧ (s.endStateHold).mgmt = s.mgmt
      ∧ (s.endStateHold).mem = s.mem
      ∧ (s.endStateHold).freeDraws = s.freeDraws
      ∧ (s.endStateHold).host.addr = s.host.addr
      ∧ (s.endStateHold).host.kind = s.host.kind
      ∧ (s.endStateHold).host.data = s.host.data := by
  unfold State.endStateHold
  split <;> simp

/-- What `redecodeHeld` leaves unchanged. -/
@[simp] theorem State.redecodeHeld_frame (s : State) :
    (s.redecodeHeld).pending = s.pending
      ∧ (s.redecodeHeld).supply = s.supply
      ∧ (s.redecodeHeld).pins = s.pins
      ∧ (s.redecodeHeld).ctrl = s.ctrl
      ∧ (s.redecodeHeld).table = s.table
      ∧ (s.redecodeHeld).journal = s.journal
      ∧ (s.redecodeHeld).writer = s.writer
      ∧ (s.redecodeHeld).applier = s.applier
      ∧ (s.redecodeHeld).port = s.port
      ∧ (s.redecodeHeld).mgmt = s.mgmt
      ∧ (s.redecodeHeld).mem = s.mem
      ∧ (s.redecodeHeld).freeDraws = s.freeDraws
      ∧ (s.redecodeHeld).host.addr = s.host.addr
      ∧ (s.redecodeHeld).host.kind = s.host.kind
      ∧ (s.redecodeHeld).host.data = s.host.data := by
  unfold State.redecodeHeld
  split <;> simp

/-- What `endSlotHold` leaves unchanged. -/
@[simp] theorem State.endSlotHold_frame (s : State) :
    (s.endSlotHold).pending = s.pending
      ∧ (s.endSlotHold).supply = s.supply
      ∧ (s.endSlotHold).pins = s.pins
      ∧ (s.endSlotHold).ctrl = s.ctrl
      ∧ (s.endSlotHold).table = s.table
      ∧ (s.endSlotHold).journal = s.journal
      ∧ (s.endSlotHold).writer = s.writer
      ∧ (s.endSlotHold).applier = s.applier
      ∧ (s.endSlotHold).port = s.port
      ∧ (s.endSlotHold).mgmt = s.mgmt
      ∧ (s.endSlotHold).mem = s.mem
      ∧ (s.endSlotHold).freeDraws = s.freeDraws
      ∧ (s.endSlotHold).host.addr = s.host.addr
      ∧ (s.endSlotHold).host.kind = s.host.kind
      ∧ (s.endSlotHold).host.data = s.host.data := by
  unfold State.endSlotHold
  split <;> simp

/-- Without a write in the slot hold there is none to decode afresh. -/
theorem State.redecodeHeld_of_hold {s : State} (h : s.host.hold ≠ some .slot) : s.redecodeHeld = s := by
  unfold State.redecodeHeld
  split
  · exact absurd ‹_› h
  · rfl

/-- Without a write in the slot hold none ends. -/
theorem State.endSlotHold_of_hold {s : State} (h : s.host.hold ≠ some .slot) : s.endSlotHold = s := by
  unfold State.endSlotHold
  rw [State.redecodeHeld_of_hold h, ite_self]

/-- What `refuseSlotHold` leaves unchanged. -/
@[simp] theorem State.refuseSlotHold_frame (s : State) :
    (s.refuseSlotHold).pending = s.pending
      ∧ (s.refuseSlotHold).supply = s.supply
      ∧ (s.refuseSlotHold).pins = s.pins
      ∧ (s.refuseSlotHold).ctrl = s.ctrl
      ∧ (s.refuseSlotHold).table = s.table
      ∧ (s.refuseSlotHold).stage = s.stage
      ∧ (s.refuseSlotHold).journal = s.journal
      ∧ (s.refuseSlotHold).writer = s.writer
      ∧ (s.refuseSlotHold).applier = s.applier
      ∧ (s.refuseSlotHold).port = s.port
      ∧ (s.refuseSlotHold).mgmt = s.mgmt
      ∧ (s.refuseSlotHold).mem = s.mem
      ∧ (s.refuseSlotHold).freeDraws = s.freeDraws
      ∧ (s.refuseSlotHold).host.addr = s.host.addr
      ∧ (s.refuseSlotHold).host.kind = s.host.kind
      ∧ (s.refuseSlotHold).host.data = s.host.data := by
  unfold State.refuseSlotHold
  split <;> simp

/-- What `hostTake` leaves unchanged. -/
@[simp] theorem State.hostTake_frame (s : State) (b : Byte) :
    (s.hostTake b).pending = s.pending
      ∧ (s.hostTake b).supply = s.supply
      ∧ (s.hostTake b).pins = s.pins
      ∧ (s.hostTake b).ctrl = s.ctrl
      ∧ (s.hostTake b).table = s.table
      ∧ (s.hostTake b).stage = s.stage
      ∧ (s.hostTake b).journal = s.journal
      ∧ (s.hostTake b).writer = s.writer
      ∧ (s.hostTake b).applier = s.applier
      ∧ (s.hostTake b).port = s.port
      ∧ (s.hostTake b).events = s.events
      ∧ (s.hostTake b).mgmt = s.mgmt
      ∧ (s.hostTake b).mem = s.mem
      ∧ (s.hostTake b).freeDraws = s.freeDraws := by
  unfold State.hostTake
  split <;> simp

end Sys2Proof.Machine
end

