-- ==== Sys2Proof/Laws/Engines.lean ====
section
/-! SUPPORT. What each shared operation of Machine/Engines leaves unchanged, once for each. -/

namespace Sys2Proof.Machine

/-- What `grantTo` leaves unchanged. -/
@[simp] theorem State.grantTo_frame (s : State) (r : Requester) (a : Access) :
    (s.grantTo r a).pending = s.pending
      ∧ (s.grantTo r a).supply = s.supply
      ∧ (s.grantTo r a).pins = s.pins
      ∧ (s.grantTo r a).ctrl = s.ctrl
      ∧ (s.grantTo r a).table = s.table
      ∧ (s.grantTo r a).stage = s.stage
      ∧ (s.grantTo r a).journal = s.journal
      ∧ (s.grantTo r a).writer = s.writer
      ∧ (s.grantTo r a).applier = s.applier
      ∧ (s.grantTo r a).events = s.events
      ∧ (s.grantTo r a).mgmt = s.mgmt
      ∧ (s.grantTo r a).mem = s.mem
      ∧ (s.grantTo r a).freeDraws = s.freeDraws
      ∧ (s.grantTo r a).host.addr = s.host.addr
      ∧ (s.grantTo r a).host.kind = s.host.kind
      ∧ (s.grantTo r a).host.data = s.host.data := by
  unfold State.grantTo
  split <;> simp

/-- What `grantAmong` leaves unchanged. -/
@[simp] theorem State.grantAmong_frame (s : State) (rs : List Requester) :
    (s.grantAmong rs).pending = s.pending
      ∧ (s.grantAmong rs).supply = s.supply
      ∧ (s.grantAmong rs).pins = s.pins
      ∧ (s.grantAmong rs).ctrl = s.ctrl
      ∧ (s.grantAmong rs).table = s.table
      ∧ (s.grantAmong rs).stage = s.stage
      ∧ (s.grantAmong rs).journal = s.journal
      ∧ (s.grantAmong rs).writer = s.writer
      ∧ (s.grantAmong rs).applier = s.applier
      ∧ (s.grantAmong rs).events = s.events
      ∧ (s.grantAmong rs).mgmt = s.mgmt
      ∧ (s.grantAmong rs).mem = s.mem
      ∧ (s.grantAmong rs).freeDraws = s.freeDraws
      ∧ (s.grantAmong rs).host.addr = s.host.addr
      ∧ (s.grantAmong rs).host.kind = s.host.kind
      ∧ (s.grantAmong rs).host.data = s.host.data := by
  unfold State.grantAmong
  (repeat' split) <;> simp

/-- What `enterFaulted` leaves unchanged. -/
@[simp] theorem State.enterFaulted_frame (s : State) (c : FaultCause) (e : Requester) (o : Order) :
    (s.enterFaulted c e o).pending = s.pending
      ∧ (s.enterFaulted c e o).supply = s.supply
      ∧ (s.enterFaulted c e o).pins = s.pins
      ∧ (s.enterFaulted c e o).table = s.table
      ∧ (s.enterFaulted c e o).stage = s.stage
      ∧ (s.enterFaulted c e o).journal = s.journal
      ∧ (s.enterFaulted c e o).writer = s.writer
      ∧ (s.enterFaulted c e o).applier = s.applier
      ∧ (s.enterFaulted c e o).mgmt = s.mgmt
      ∧ (s.enterFaulted c e o).mem = s.mem
      ∧ (s.enterFaulted c e o).freeDraws = s.freeDraws
      ∧ (s.enterFaulted c e o).ctrl.straps = s.ctrl.straps
      ∧ (s.enterFaulted c e o).ctrl.format = s.ctrl.format
      ∧ (s.enterFaulted c e o).ctrl.loader = s.ctrl.loader
      ∧ (s.enterFaulted c e o).host.addr = s.host.addr
      ∧ (s.enterFaulted c e o).host.kind = s.host.kind
      ∧ (s.enterFaulted c e o).host.data = s.host.data := by
  unfold State.enterFaulted
  split <;> simp

/-- What `mergeOn` leaves unchanged. -/
@[simp] theorem State.mergeOn_frame (s : State) :
    (s.mergeOn).pending = s.pending
      ∧ (s.mergeOn).supply = s.supply
      ∧ (s.mergeOn).pins = s.pins
      ∧ (s.mergeOn).ctrl = s.ctrl
      ∧ (s.mergeOn).table = s.table
      ∧ (s.mergeOn).journal = s.journal
      ∧ (s.mergeOn).applier = s.applier
      ∧ (s.mergeOn).host = s.host
      ∧ (s.mergeOn).port = s.port
      ∧ (s.mergeOn).events = s.events
      ∧ (s.mergeOn).mgmt = s.mgmt
      ∧ (s.mergeOn).mem = s.mem
      ∧ (s.mergeOn).freeDraws = s.freeDraws := by
  unfold State.mergeOn
  dsimp only
  split <;> simp

/-- What `mergeTake` leaves unchanged. -/
@[simp] theorem State.mergeTake_frame (s : State) (b : Byte) :
    (s.mergeTake b).pending = s.pending
      ∧ (s.mergeTake b).supply = s.supply
      ∧ (s.mergeTake b).pins = s.pins
      ∧ (s.mergeTake b).ctrl = s.ctrl
      ∧ (s.mergeTake b).table = s.table
      ∧ (s.mergeTake b).journal = s.journal
      ∧ (s.mergeTake b).applier = s.applier
      ∧ (s.mergeTake b).host = s.host
      ∧ (s.mergeTake b).port = s.port
      ∧ (s.mergeTake b).events = s.events
      ∧ (s.mergeTake b).mgmt = s.mgmt
      ∧ (s.mergeTake b).mem = s.mem
      ∧ (s.mergeTake b).freeDraws = s.freeDraws := by
  unfold State.mergeTake
  split <;> simp

/-- What `entryLogged` leaves unchanged. -/
@[simp] theorem State.entryLogged_frame (s : State) :
    (s.entryLogged).pending = s.pending
      ∧ (s.entryLogged).supply = s.supply
      ∧ (s.entryLogged).pins = s.pins
      ∧ (s.entryLogged).ctrl = s.ctrl
      ∧ (s.entryLogged).table = s.table
      ∧ (s.entryLogged).applier = s.applier
      ∧ (s.entryLogged).host = s.host
      ∧ (s.entryLogged).port = s.port
      ∧ (s.entryLogged).events = s.events
      ∧ (s.entryLogged).mgmt = s.mgmt
      ∧ (s.entryLogged).mem = s.mem
      ∧ (s.entryLogged).freeDraws = s.freeDraws := by
  unfold State.entryLogged
  split <;> simp

/-- What `logJournalFault` leaves unchanged. -/
@[simp] theorem State.logJournalFault_frame (s : State) (d : Byte) (a : Nat) :
    (s.logJournalFault d a).pending = s.pending
      ∧ (s.logJournalFault d a).supply = s.supply
      ∧ (s.logJournalFault d a).pins = s.pins
      ∧ (s.logJournalFault d a).ctrl = s.ctrl
      ∧ (s.logJournalFault d a).table = s.table
      ∧ (s.logJournalFault d a).stage = s.stage
      ∧ (s.logJournalFault d a).journal = s.journal
      ∧ (s.logJournalFault d a).writer = s.writer
      ∧ (s.logJournalFault d a).applier = s.applier
      ∧ (s.logJournalFault d a).host = s.host
      ∧ (s.logJournalFault d a).port = s.port
      ∧ (s.logJournalFault d a).mgmt = s.mgmt
      ∧ (s.logJournalFault d a).mem = s.mem
      ∧ (s.logJournalFault d a).freeDraws = s.freeDraws := by
  simp [State.logJournalFault]

/-- What `journalFault` leaves unchanged. -/
@[simp] theorem State.journalFault_frame (s : State) (a : Nat) (o : Order) :
    (s.journalFault a o).pending = s.pending
      ∧ (s.journalFault a o).supply = s.supply
      ∧ (s.journalFault a o).pins = s.pins
      ∧ (s.journalFault a o).table = s.table
      ∧ (s.journalFault a o).stage = s.stage
      ∧ (s.journalFault a o).journal = s.journal
      ∧ (s.journalFault a o).applier = s.applier
      ∧ (s.journalFault a o).mgmt = s.mgmt
      ∧ (s.journalFault a o).mem = s.mem
      ∧ (s.journalFault a o).freeDraws = s.freeDraws
      ∧ (s.journalFault a o).ctrl.straps = s.ctrl.straps
      ∧ (s.journalFault a o).ctrl.format = s.ctrl.format
      ∧ (s.journalFault a o).ctrl.loader = s.ctrl.loader
      ∧ (s.journalFault a o).host.addr = s.host.addr
      ∧ (s.journalFault a o).host.kind = s.host.kind
      ∧ (s.journalFault a o).host.data = s.host.data := by
  unfold State.journalFault
  (repeat' split) <;> simp

/-- What `clearingDone` leaves unchanged. -/
@[simp] theorem State.clearingDone_frame (s : State) :
    (s.clearingDone).pending = s.pending
      ∧ (s.clearingDone).supply = s.supply
      ∧ (s.clearingDone).pins = s.pins
      ∧ (s.clearingDone).ctrl = s.ctrl
      ∧ (s.clearingDone).table = s.table
      ∧ (s.clearingDone).stage = s.stage
      ∧ (s.clearingDone).journal = s.journal
      ∧ (s.clearingDone).applier = s.applier
      ∧ (s.clearingDone).host = s.host
      ∧ (s.clearingDone).port = s.port
      ∧ (s.clearingDone).events = s.events
      ∧ (s.clearingDone).mgmt = s.mgmt
      ∧ (s.clearingDone).mem = s.mem
      ∧ (s.clearingDone).freeDraws = s.freeDraws := by
  simp [State.clearingDone]

/-- What `writerAdvance` leaves unchanged. -/
@[simp] theorem State.writerAdvance_frame (s : State) (r : StepResult) (o : Order) :
    (s.writerAdvance r o).pending = s.pending
      ∧ (s.writerAdvance r o).supply = s.supply
      ∧ (s.writerAdvance r o).pins = s.pins
      ∧ (s.writerAdvance r o).table = s.table
      ∧ (s.writerAdvance r o).applier = s.applier
      ∧ (s.writerAdvance r o).mgmt = s.mgmt
      ∧ (s.writerAdvance r o).mem = s.mem
      ∧ (s.writerAdvance r o).freeDraws = s.freeDraws
      ∧ (s.writerAdvance r o).ctrl.straps = s.ctrl.straps
      ∧ (s.writerAdvance r o).ctrl.format = s.ctrl.format
      ∧ (s.writerAdvance r o).ctrl.loader = s.ctrl.loader
      ∧ (s.writerAdvance r o).host.addr = s.host.addr
      ∧ (s.writerAdvance r o).host.kind = s.host.kind
      ∧ (s.writerAdvance r o).host.data = s.host.data := by
  unfold State.writerAdvance
  split <;> simp

/-- What `writerResume` leaves unchanged. -/
@[simp] theorem State.writerResume_frame (s : State) (r : StepResult) (o : Order) :
    (s.writerResume r o).pending = s.pending
      ∧ (s.writerResume r o).supply = s.supply
      ∧ (s.writerResume r o).pins = s.pins
      ∧ (s.writerResume r o).table = s.table
      ∧ (s.writerResume r o).applier = s.applier
      ∧ (s.writerResume r o).mgmt = s.mgmt
      ∧ (s.writerResume r o).mem = s.mem
      ∧ (s.writerResume r o).freeDraws = s.freeDraws
      ∧ (s.writerResume r o).ctrl.straps = s.ctrl.straps
      ∧ (s.writerResume r o).ctrl.format = s.ctrl.format
      ∧ (s.writerResume r o).ctrl.loader = s.ctrl.loader
      ∧ (s.writerResume r o).host.addr = s.host.addr
      ∧ (s.writerResume r o).host.kind = s.host.kind
      ∧ (s.writerResume r o).host.data = s.host.data := by
  unfold State.writerResume
  cases r <;> simp

/-- What `writerTake` leaves unchanged. -/
@[simp] theorem State.writerTake_frame (s : State) (b : Byte) (o : Order) :
    (s.writerTake b o).pending = s.pending
      ∧ (s.writerTake b o).supply = s.supply
      ∧ (s.writerTake b o).pins = s.pins
      ∧ (s.writerTake b o).table = s.table
      ∧ (s.writerTake b o).applier = s.applier
      ∧ (s.writerTake b o).mgmt = s.mgmt
      ∧ (s.writerTake b o).mem = s.mem
      ∧ (s.writerTake b o).freeDraws = s.freeDraws
      ∧ (s.writerTake b o).ctrl.straps = s.ctrl.straps
      ∧ (s.writerTake b o).ctrl.format = s.ctrl.format
      ∧ (s.writerTake b o).ctrl.loader = s.ctrl.loader
      ∧ (s.writerTake b o).host.addr = s.host.addr
      ∧ (s.writerTake b o).host.kind = s.host.kind
      ∧ (s.writerTake b o).host.data = s.host.data := by
  unfold State.writerTake
  (repeat' split) <;> simp

/-- What `placeEntry` leaves unchanged. -/
@[simp] theorem State.placeEntry_frame (s : State) :
    (s.placeEntry).pending = s.pending
      ∧ (s.placeEntry).supply = s.supply
      ∧ (s.placeEntry).pins = s.pins
      ∧ (s.placeEntry).ctrl = s.ctrl
      ∧ (s.placeEntry).table = s.table
      ∧ (s.placeEntry).stage = s.stage
      ∧ (s.placeEntry).applier = s.applier
      ∧ (s.placeEntry).host = s.host
      ∧ (s.placeEntry).port = s.port
      ∧ (s.placeEntry).events = s.events
      ∧ (s.placeEntry).mgmt = s.mgmt
      ∧ (s.placeEntry).mem = s.mem
      ∧ (s.placeEntry).freeDraws = s.freeDraws := by
  unfold State.placeEntry
  split <;> simp

/-- What `logProfileStored` leaves unchanged. -/
@[simp] theorem State.logProfileStored_frame (s : State) (i : Fin 8) :
    (s.logProfileStored i).pending = s.pending
      ∧ (s.logProfileStored i).supply = s.supply
      ∧ (s.logProfileStored i).pins = s.pins
      ∧ (s.logProfileStored i).ctrl = s.ctrl
      ∧ (s.logProfileStored i).table = s.table
      ∧ (s.logProfileStored i).stage = s.stage
      ∧ (s.logProfileStored i).journal = s.journal
      ∧ (s.logProfileStored i).writer = s.writer
      ∧ (s.logProfileStored i).applier = s.applier
      ∧ (s.logProfileStored i).host = s.host
      ∧ (s.logProfileStored i).port = s.port
      ∧ (s.logProfileStored i).mgmt = s.mgmt
      ∧ (s.logProfileStored i).mem = s.mem
      ∧ (s.logProfileStored i).freeDraws = s.freeDraws := by
  unfold State.logProfileStored
  split <;> simp

/-- What `logProfilesStored` leaves unchanged. -/
@[simp] theorem State.logProfilesStored_frame (s : State) (is : List (Fin 8)) :
    (is.foldl State.logProfileStored s).pending = s.pending
      ∧ (is.foldl State.logProfileStored s).supply = s.supply
      ∧ (is.foldl State.logProfileStored s).pins = s.pins
      ∧ (is.foldl State.logProfileStored s).ctrl = s.ctrl
      ∧ (is.foldl State.logProfileStored s).table = s.table
      ∧ (is.foldl State.logProfileStored s).stage = s.stage
      ∧ (is.foldl State.logProfileStored s).journal = s.journal
      ∧ (is.foldl State.logProfileStored s).writer = s.writer
      ∧ (is.foldl State.logProfileStored s).applier = s.applier
      ∧ (is.foldl State.logProfileStored s).host = s.host
      ∧ (is.foldl State.logProfileStored s).port = s.port
      ∧ (is.foldl State.logProfileStored s).mgmt = s.mgmt
      ∧ (is.foldl State.logProfileStored s).mem = s.mem
      ∧ (is.foldl State.logProfileStored s).freeDraws = s.freeDraws := by
  induction is generalizing s with
  | nil => simp
  | cons i is ih => simp [ih]

/-- What `anchorDone` leaves unchanged. -/
@[simp] theorem State.anchorDone_frame (s : State) :
    (s.anchorDone).pending = s.pending
      ∧ (s.anchorDone).supply = s.supply
      ∧ (s.anchorDone).pins = s.pins
      ∧ (s.anchorDone).ctrl = s.ctrl
      ∧ (s.anchorDone).table = s.table
      ∧ (s.anchorDone).writer = s.writer
      ∧ (s.anchorDone).host = s.host
      ∧ (s.anchorDone).port = s.port
      ∧ (s.anchorDone).mgmt = s.mgmt
      ∧ (s.anchorDone).mem = s.mem
      ∧ (s.anchorDone).freeDraws = s.freeDraws := by
  unfold State.anchorDone
  split <;> simp

/-- What `logApplyFault` leaves unchanged. -/
@[simp] theorem State.logApplyFault_frame (s : State) (d : Byte) (r : Option (Fin 8)) (a : Nat) (q : Word16) :
    (s.logApplyFault d r a q).pending = s.pending
      ∧ (s.logApplyFault d r a q).supply = s.supply
      ∧ (s.logApplyFault d r a q).pins = s.pins
      ∧ (s.logApplyFault d r a q).ctrl = s.ctrl
      ∧ (s.logApplyFault d r a q).table = s.table
      ∧ (s.logApplyFault d r a q).stage = s.stage
      ∧ (s.logApplyFault d r a q).journal = s.journal
      ∧ (s.logApplyFault d r a q).writer = s.writer
      ∧ (s.logApplyFault d r a q).applier = s.applier
      ∧ (s.logApplyFault d r a q).host = s.host
      ∧ (s.logApplyFault d r a q).port = s.port
      ∧ (s.logApplyFault d r a q).mgmt = s.mgmt
      ∧ (s.logApplyFault d r a q).mem = s.mem
      ∧ (s.logApplyFault d r a q).freeDraws = s.freeDraws := by
  simp [State.logApplyFault]

/-- What `applyFault` leaves unchanged. -/
@[simp] theorem State.applyFault_frame (s : State) (a : Nat) (o : Order) :
    (s.applyFault a o).pending = s.pending
      ∧ (s.applyFault a o).supply = s.supply
      ∧ (s.applyFault a o).pins = s.pins
      ∧ (s.applyFault a o).table = s.table
      ∧ (s.applyFault a o).stage = s.stage
      ∧ (s.applyFault a o).journal = s.journal
      ∧ (s.applyFault a o).writer = s.writer
      ∧ (s.applyFault a o).mgmt = s.mgmt
      ∧ (s.applyFault a o).mem = s.mem
      ∧ (s.applyFault a o).freeDraws = s.freeDraws
      ∧ (s.applyFault a o).ctrl.straps = s.ctrl.straps
      ∧ (s.applyFault a o).ctrl.format = s.ctrl.format
      ∧ (s.applyFault a o).ctrl.loader = s.ctrl.loader
      ∧ (s.applyFault a o).host.addr = s.host.addr
      ∧ (s.applyFault a o).host.kind = s.host.kind
      ∧ (s.applyFault a o).host.data = s.host.data := by
  unfold State.applyFault
  (repeat' split) <;> simp

/-- What `applierAdvance` leaves unchanged. -/
@[simp] theorem State.applierAdvance_frame (s : State) (r : StepResult) (o : Order) :
    (s.applierAdvance r o).pending = s.pending
      ∧ (s.applierAdvance r o).supply = s.supply
      ∧ (s.applierAdvance r o).pins = s.pins
      ∧ (s.applierAdvance r o).table = s.table
      ∧ (s.applierAdvance r o).writer = s.writer
      ∧ (s.applierAdvance r o).mgmt = s.mgmt
      ∧ (s.applierAdvance r o).mem = s.mem
      ∧ (s.applierAdvance r o).freeDraws = s.freeDraws
      ∧ (s.applierAdvance r o).ctrl.straps = s.ctrl.straps
      ∧ (s.applierAdvance r o).ctrl.format = s.ctrl.format
      ∧ (s.applierAdvance r o).ctrl.loader = s.ctrl.loader
      ∧ (s.applierAdvance r o).host.addr = s.host.addr
      ∧ (s.applierAdvance r o).host.kind = s.host.kind
      ∧ (s.applierAdvance r o).host.data = s.host.data := by
  unfold State.applierAdvance
  (repeat' split) <;> simp

/-- What `applierResume` leaves unchanged. -/
@[simp] theorem State.applierResume_frame (s : State) (r : StepResult) (o : Order) :
    (s.applierResume r o).pending = s.pending
      ∧ (s.applierResume r o).supply = s.supply
      ∧ (s.applierResume r o).pins = s.pins
      ∧ (s.applierResume r o).table = s.table
      ∧ (s.applierResume r o).writer = s.writer
      ∧ (s.applierResume r o).mgmt = s.mgmt
      ∧ (s.applierResume r o).mem = s.mem
      ∧ (s.applierResume r o).freeDraws = s.freeDraws
      ∧ (s.applierResume r o).ctrl.straps = s.ctrl.straps
      ∧ (s.applierResume r o).ctrl.format = s.ctrl.format
      ∧ (s.applierResume r o).ctrl.loader = s.ctrl.loader
      ∧ (s.applierResume r o).host.addr = s.host.addr
      ∧ (s.applierResume r o).host.kind = s.host.kind
      ∧ (s.applierResume r o).host.data = s.host.data := by
  unfold State.applierResume
  cases r <;> simp

/-- What `applierTake` leaves unchanged. -/
@[simp] theorem State.applierTake_frame (s : State) (b : Byte) (o : Order) :
    (s.applierTake b o).pending = s.pending
      ∧ (s.applierTake b o).supply = s.supply
      ∧ (s.applierTake b o).pins = s.pins
      ∧ (s.applierTake b o).table = s.table
      ∧ (s.applierTake b o).writer = s.writer
      ∧ (s.applierTake b o).mgmt = s.mgmt
      ∧ (s.applierTake b o).mem = s.mem
      ∧ (s.applierTake b o).freeDraws = s.freeDraws
      ∧ (s.applierTake b o).ctrl.straps = s.ctrl.straps
      ∧ (s.applierTake b o).ctrl.format = s.ctrl.format
      ∧ (s.applierTake b o).ctrl.loader = s.ctrl.loader
      ∧ (s.applierTake b o).host.addr = s.host.addr
      ∧ (s.applierTake b o).host.kind = s.host.kind
      ∧ (s.applierTake b o).host.data = s.host.data := by
  unfold State.applierTake
  dsimp only
  split <;> simp

end Sys2Proof.Machine
end

