-- ==== Sys2Proof/Laws/Recovery.lean ====
section
/-! SUPPORT. What each shared operation of Machine/Recovery.lean and Profile leaves unchanged, once for each. -/

namespace Sys2Proof.Machine

/-- What `beginLoad` leaves unchanged. -/
@[simp] theorem State.beginLoad_frame (s : State) (o : OpState) :
    (s.beginLoad o).pending = s.pending
      ∧ (s.beginLoad o).supply = s.supply
      ∧ (s.beginLoad o).pins = s.pins
      ∧ (s.beginLoad o).stage = s.stage
      ∧ (s.beginLoad o).journal = s.journal
      ∧ (s.beginLoad o).writer = s.writer
      ∧ (s.beginLoad o).applier = s.applier
      ∧ (s.beginLoad o).host = s.host
      ∧ (s.beginLoad o).port = s.port
      ∧ (s.beginLoad o).events = s.events
      ∧ (s.beginLoad o).mgmt = s.mgmt
      ∧ (s.beginLoad o).mem = s.mem
      ∧ (s.beginLoad o).freeDraws = s.freeDraws
      ∧ (s.beginLoad o).ctrl.cause = s.ctrl.cause
      ∧ (s.beginLoad o).ctrl.straps = s.ctrl.straps
      ∧ (s.beginLoad o).ctrl.format = s.ctrl.format
      ∧ (s.beginLoad o).table.mask = s.table.mask
      ∧ (s.beginLoad o).table.defaultClass = s.table.defaultClass := by
  simp [State.beginLoad]

/-- What `logProfileBad` leaves unchanged. -/
@[simp] theorem State.logProfileBad_frame (s : State) (d : Byte) (r : Option (Fin 8)) (o n : Nat) :
    (s.logProfileBad d r o n).pending = s.pending
      ∧ (s.logProfileBad d r o n).supply = s.supply
      ∧ (s.logProfileBad d r o n).pins = s.pins
      ∧ (s.logProfileBad d r o n).ctrl = s.ctrl
      ∧ (s.logProfileBad d r o n).table = s.table
      ∧ (s.logProfileBad d r o n).stage = s.stage
      ∧ (s.logProfileBad d r o n).journal = s.journal
      ∧ (s.logProfileBad d r o n).writer = s.writer
      ∧ (s.logProfileBad d r o n).applier = s.applier
      ∧ (s.logProfileBad d r o n).host = s.host
      ∧ (s.logProfileBad d r o n).port = s.port
      ∧ (s.logProfileBad d r o n).mgmt = s.mgmt
      ∧ (s.logProfileBad d r o n).mem = s.mem
      ∧ (s.logProfileBad d r o n).freeDraws = s.freeDraws := by
  simp [State.logProfileBad]

/-- What `changeMask` leaves unchanged. -/
@[simp] theorem State.changeMask_frame (s : State) (m : Word16) :
    (s.changeMask m).pending = s.pending
      ∧ (s.changeMask m).supply = s.supply
      ∧ (s.changeMask m).pins = s.pins
      ∧ (s.changeMask m).ctrl = s.ctrl
      ∧ (s.changeMask m).stage = s.stage
      ∧ (s.changeMask m).journal = s.journal
      ∧ (s.changeMask m).writer = s.writer
      ∧ (s.changeMask m).applier = s.applier
      ∧ (s.changeMask m).host = s.host
      ∧ (s.changeMask m).port = s.port
      ∧ (s.changeMask m).mgmt = s.mgmt
      ∧ (s.changeMask m).mem = s.mem
      ∧ (s.changeMask m).freeDraws = s.freeDraws
      ∧ (s.changeMask m).table.entries = s.table.entries
      ∧ (s.changeMask m).table.defaultClass = s.table.defaultClass := by
  simp [State.changeMask]

/-- What `loadBad` leaves unchanged. -/
@[simp] theorem State.loadBad_frame (s : State) :
    (s.loadBad).pending = s.pending
      ∧ (s.loadBad).supply = s.supply
      ∧ (s.loadBad).pins = s.pins
      ∧ (s.loadBad).stage = s.stage
      ∧ (s.loadBad).journal = s.journal
      ∧ (s.loadBad).writer = s.writer
      ∧ (s.loadBad).applier = s.applier
      ∧ (s.loadBad).host = s.host
      ∧ (s.loadBad).port = s.port
      ∧ (s.loadBad).mgmt = s.mgmt
      ∧ (s.loadBad).mem = s.mem
      ∧ (s.loadBad).freeDraws = s.freeDraws
      ∧ (s.loadBad).ctrl.opState = s.ctrl.opState
      ∧ (s.loadBad).ctrl.hrsto = s.ctrl.hrsto
      ∧ (s.loadBad).ctrl.cause = s.ctrl.cause
      ∧ (s.loadBad).ctrl.straps = s.ctrl.straps
      ∧ (s.loadBad).ctrl.format = s.ctrl.format
      ∧ (s.loadBad).ctrl.loader = s.ctrl.loader := by
  simp [State.loadBad]

/-- What `loadEntry` leaves unchanged. -/
@[simp] theorem State.loadEntry_frame (s : State) (bs : List Byte) (i : Fin 8) :
    (State.loadEntry bs s i).pending = s.pending
      ∧ (State.loadEntry bs s i).supply = s.supply
      ∧ (State.loadEntry bs s i).pins = s.pins
      ∧ (State.loadEntry bs s i).ctrl = s.ctrl
      ∧ (State.loadEntry bs s i).stage = s.stage
      ∧ (State.loadEntry bs s i).journal = s.journal
      ∧ (State.loadEntry bs s i).writer = s.writer
      ∧ (State.loadEntry bs s i).applier = s.applier
      ∧ (State.loadEntry bs s i).host = s.host
      ∧ (State.loadEntry bs s i).port = s.port
      ∧ (State.loadEntry bs s i).mgmt = s.mgmt
      ∧ (State.loadEntry bs s i).mem = s.mem
      ∧ (State.loadEntry bs s i).freeDraws = s.freeDraws
      ∧ (State.loadEntry bs s i).table.mask = s.table.mask
      ∧ (State.loadEntry bs s i).table.defaultClass = s.table.defaultClass := by
  unfold State.loadEntry
  dsimp only
  (repeat' split) <;> simp

/-- What `loadEntries` leaves unchanged. -/
@[simp] theorem State.loadEntries_frame (s : State) (bs : List Byte) (is : List (Fin 8)) :
    (is.foldl (State.loadEntry bs) s).pending = s.pending
      ∧ (is.foldl (State.loadEntry bs) s).supply = s.supply
      ∧ (is.foldl (State.loadEntry bs) s).pins = s.pins
      ∧ (is.foldl (State.loadEntry bs) s).ctrl = s.ctrl
      ∧ (is.foldl (State.loadEntry bs) s).stage = s.stage
      ∧ (is.foldl (State.loadEntry bs) s).journal = s.journal
      ∧ (is.foldl (State.loadEntry bs) s).writer = s.writer
      ∧ (is.foldl (State.loadEntry bs) s).applier = s.applier
      ∧ (is.foldl (State.loadEntry bs) s).host = s.host
      ∧ (is.foldl (State.loadEntry bs) s).port = s.port
      ∧ (is.foldl (State.loadEntry bs) s).mgmt = s.mgmt
      ∧ (is.foldl (State.loadEntry bs) s).mem = s.mem
      ∧ (is.foldl (State.loadEntry bs) s).freeDraws = s.freeDraws
      ∧ (is.foldl (State.loadEntry bs) s).table.mask = s.table.mask
      ∧ (is.foldl (State.loadEntry bs) s).table.defaultClass = s.table.defaultClass := by
  induction is generalizing s with
  | nil => simp
  | cons i is ih => simp [ih]

/-- What `loadDefault` leaves unchanged. -/
@[simp] theorem State.loadDefault_frame (s : State) (b : Byte) :
    (s.loadDefault b).pending = s.pending
      ∧ (s.loadDefault b).supply = s.supply
      ∧ (s.loadDefault b).pins = s.pins
      ∧ (s.loadDefault b).ctrl = s.ctrl
      ∧ (s.loadDefault b).stage = s.stage
      ∧ (s.loadDefault b).journal = s.journal
      ∧ (s.loadDefault b).writer = s.writer
      ∧ (s.loadDefault b).applier = s.applier
      ∧ (s.loadDefault b).host = s.host
      ∧ (s.loadDefault b).port = s.port
      ∧ (s.loadDefault b).mgmt = s.mgmt
      ∧ (s.loadDefault b).mem = s.mem
      ∧ (s.loadDefault b).freeDraws = s.freeDraws
      ∧ (s.loadDefault b).table.mask = s.table.mask
      ∧ (s.loadDefault b).table.entries = s.table.entries := by
  unfold State.loadDefault
  split <;> simp

/-- What `loadGood` leaves unchanged. -/
@[simp] theorem State.loadGood_frame (s : State) (bs : List Byte) :
    (s.loadGood bs).pending = s.pending
      ∧ (s.loadGood bs).supply = s.supply
      ∧ (s.loadGood bs).pins = s.pins
      ∧ (s.loadGood bs).stage = s.stage
      ∧ (s.loadGood bs).journal = s.journal
      ∧ (s.loadGood bs).writer = s.writer
      ∧ (s.loadGood bs).applier = s.applier
      ∧ (s.loadGood bs).host = s.host
      ∧ (s.loadGood bs).port = s.port
      ∧ (s.loadGood bs).mgmt = s.mgmt
      ∧ (s.loadGood bs).mem = s.mem
      ∧ (s.loadGood bs).freeDraws = s.freeDraws
      ∧ (s.loadGood bs).ctrl.opState = s.ctrl.opState
      ∧ (s.loadGood bs).ctrl.hrsto = s.ctrl.hrsto
      ∧ (s.loadGood bs).ctrl.cause = s.ctrl.cause
      ∧ (s.loadGood bs).ctrl.straps = s.ctrl.straps
      ∧ (s.loadGood bs).ctrl.format = s.ctrl.format
      ∧ (s.loadGood bs).ctrl.loader = s.ctrl.loader := by
  simp [State.loadGood]

/-- What `loadDone` leaves unchanged. -/
@[simp] theorem State.loadDone_frame (s : State) (bs : List Byte) :
    (s.loadDone bs).pending = s.pending
      ∧ (s.loadDone bs).supply = s.supply
      ∧ (s.loadDone bs).pins = s.pins
      ∧ (s.loadDone bs).journal = s.journal
      ∧ (s.loadDone bs).writer = s.writer
      ∧ (s.loadDone bs).applier = s.applier
      ∧ (s.loadDone bs).port = s.port
      ∧ (s.loadDone bs).mgmt = s.mgmt
      ∧ (s.loadDone bs).mem = s.mem
      ∧ (s.loadDone bs).freeDraws = s.freeDraws
      ∧ (s.loadDone bs).ctrl.cause = s.ctrl.cause
      ∧ (s.loadDone bs).ctrl.straps = s.ctrl.straps
      ∧ (s.loadDone bs).ctrl.format = s.ctrl.format
      ∧ (s.loadDone bs).host.addr = s.host.addr
      ∧ (s.loadDone bs).host.kind = s.host.kind
      ∧ (s.loadDone bs).host.data = s.host.data := by
  unfold State.loadDone
  split <;> simp

/-- What `loaderTake` leaves unchanged. -/
@[simp] theorem State.loaderTake_frame (s : State) (b : Byte) :
    (s.loaderTake b).pending = s.pending
      ∧ (s.loaderTake b).supply = s.supply
      ∧ (s.loaderTake b).pins = s.pins
      ∧ (s.loaderTake b).journal = s.journal
      ∧ (s.loaderTake b).writer = s.writer
      ∧ (s.loaderTake b).applier = s.applier
      ∧ (s.loaderTake b).port = s.port
      ∧ (s.loaderTake b).mgmt = s.mgmt
      ∧ (s.loaderTake b).mem = s.mem
      ∧ (s.loaderTake b).freeDraws = s.freeDraws
      ∧ (s.loaderTake b).ctrl.cause = s.ctrl.cause
      ∧ (s.loaderTake b).ctrl.straps = s.ctrl.straps
      ∧ (s.loaderTake b).ctrl.format = s.ctrl.format
      ∧ (s.loaderTake b).host.addr = s.host.addr
      ∧ (s.loaderTake b).host.kind = s.host.kind
      ∧ (s.loaderTake b).host.data = s.host.data := by
  unfold State.loaderTake
  split <;> simp

/-- What `queueProfile` leaves unchanged. -/
@[simp] theorem State.queueProfile_frame (s : State) (i : Fin 8) :
    (s.queueProfile i).pending = s.pending
      ∧ (s.queueProfile i).supply = s.supply
      ∧ (s.queueProfile i).pins = s.pins
      ∧ (s.queueProfile i).table = s.table
      ∧ (s.queueProfile i).journal = s.journal
      ∧ (s.queueProfile i).writer = s.writer
      ∧ (s.queueProfile i).applier = s.applier
      ∧ (s.queueProfile i).host = s.host
      ∧ (s.queueProfile i).port = s.port
      ∧ (s.queueProfile i).events = s.events
      ∧ (s.queueProfile i).mgmt = s.mgmt
      ∧ (s.queueProfile i).mem = s.mem
      ∧ (s.queueProfile i).freeDraws = s.freeDraws
      ∧ (s.queueProfile i).ctrl.opState = s.ctrl.opState
      ∧ (s.queueProfile i).ctrl.hrsto = s.ctrl.hrsto
      ∧ (s.queueProfile i).ctrl.cause = s.ctrl.cause
      ∧ (s.queueProfile i).ctrl.straps = s.ctrl.straps
      ∧ (s.queueProfile i).ctrl.format = s.ctrl.format
      ∧ (s.queueProfile i).ctrl.loader = s.ctrl.loader := by
  simp [State.queueProfile]

/-- What `writeReport` leaves unchanged. -/
@[simp] theorem State.writeReport_frame (s : State) (o : RecoveryOutcome) (n : Nat) (l d a : Bool) (g : Word16) (f : Nat) :
    (s.writeReport o n l d a g f).pending = s.pending
      ∧ (s.writeReport o n l d a g f).supply = s.supply
      ∧ (s.writeReport o n l d a g f).pins = s.pins
      ∧ (s.writeReport o n l d a g f).table = s.table
      ∧ (s.writeReport o n l d a g f).stage = s.stage
      ∧ (s.writeReport o n l d a g f).journal = s.journal
      ∧ (s.writeReport o n l d a g f).writer = s.writer
      ∧ (s.writeReport o n l d a g f).applier = s.applier
      ∧ (s.writeReport o n l d a g f).host = s.host
      ∧ (s.writeReport o n l d a g f).port = s.port
      ∧ (s.writeReport o n l d a g f).events = s.events
      ∧ (s.writeReport o n l d a g f).mem = s.mem
      ∧ (s.writeReport o n l d a g f).freeDraws = s.freeDraws
      ∧ (s.writeReport o n l d a g f).ctrl.opState = s.ctrl.opState
      ∧ (s.writeReport o n l d a g f).ctrl.hrsto = s.ctrl.hrsto
      ∧ (s.writeReport o n l d a g f).ctrl.cause = s.ctrl.cause
      ∧ (s.writeReport o n l d a g f).ctrl.straps = s.ctrl.straps
      ∧ (s.writeReport o n l d a g f).ctrl.format = s.ctrl.format
      ∧ (s.writeReport o n l d a g f).ctrl.loader = s.ctrl.loader := by
  simp [State.writeReport]

/-- What `logRecovered` leaves unchanged. -/
@[simp] theorem State.logRecovered_frame (s : State) (o : RecoveryOutcome) (a : Option Addr) (n : Nat) :
    (s.logRecovered o a n).pending = s.pending
      ∧ (s.logRecovered o a n).supply = s.supply
      ∧ (s.logRecovered o a n).pins = s.pins
      ∧ (s.logRecovered o a n).ctrl = s.ctrl
      ∧ (s.logRecovered o a n).table = s.table
      ∧ (s.logRecovered o a n).stage = s.stage
      ∧ (s.logRecovered o a n).journal = s.journal
      ∧ (s.logRecovered o a n).writer = s.writer
      ∧ (s.logRecovered o a n).applier = s.applier
      ∧ (s.logRecovered o a n).host = s.host
      ∧ (s.logRecovered o a n).port = s.port
      ∧ (s.logRecovered o a n).mgmt = s.mgmt
      ∧ (s.logRecovered o a n).mem = s.mem
      ∧ (s.logRecovered o a n).freeDraws = s.freeDraws := by
  simp [State.logRecovered]

/-- What `setRecovery` leaves unchanged. -/
@[simp] theorem State.setRecovery_frame (s : State) (r : Recovery) :
    (s.setRecovery r).pending = s.pending
      ∧ (s.setRecovery r).supply = s.supply
      ∧ (s.setRecovery r).pins = s.pins
      ∧ (s.setRecovery r).table = s.table
      ∧ (s.setRecovery r).stage = s.stage
      ∧ (s.setRecovery r).journal = s.journal
      ∧ (s.setRecovery r).writer = s.writer
      ∧ (s.setRecovery r).applier = s.applier
      ∧ (s.setRecovery r).host = s.host
      ∧ (s.setRecovery r).port = s.port
      ∧ (s.setRecovery r).events = s.events
      ∧ (s.setRecovery r).mgmt = s.mgmt
      ∧ (s.setRecovery r).mem = s.mem
      ∧ (s.setRecovery r).freeDraws = s.freeDraws
      ∧ (s.setRecovery r).ctrl.opState = s.ctrl.opState
      ∧ (s.setRecovery r).ctrl.hrsto = s.ctrl.hrsto
      ∧ (s.setRecovery r).ctrl.cause = s.ctrl.cause
      ∧ (s.setRecovery r).ctrl.straps = s.ctrl.straps
      ∧ (s.setRecovery r).ctrl.format = s.ctrl.format
      ∧ (s.setRecovery r).ctrl.loader = s.ctrl.loader := by
  simp [State.setRecovery]

/-- What `beginRecovery` leaves unchanged. -/
@[simp] theorem State.beginRecovery_frame (s : State) (c : StartCause) :
    (s.beginRecovery c).pending = s.pending
      ∧ (s.beginRecovery c).supply = s.supply
      ∧ (s.beginRecovery c).pins = s.pins
      ∧ (s.beginRecovery c).table = s.table
      ∧ (s.beginRecovery c).stage = s.stage
      ∧ (s.beginRecovery c).journal = s.journal
      ∧ (s.beginRecovery c).writer = s.writer
      ∧ (s.beginRecovery c).applier = s.applier
      ∧ (s.beginRecovery c).host = s.host
      ∧ (s.beginRecovery c).port = s.port
      ∧ (s.beginRecovery c).events = s.events
      ∧ (s.beginRecovery c).mgmt = s.mgmt
      ∧ (s.beginRecovery c).mem = s.mem
      ∧ (s.beginRecovery c).freeDraws = s.freeDraws
      ∧ (s.beginRecovery c).ctrl.cause = s.ctrl.cause
      ∧ (s.beginRecovery c).ctrl.straps = s.ctrl.straps
      ∧ (s.beginRecovery c).ctrl.format = s.ctrl.format
      ∧ (s.beginRecovery c).ctrl.loader = s.ctrl.loader := by
  simp [State.beginRecovery]

/-- What `logFormatted` leaves unchanged. -/
@[simp] theorem State.logFormatted_frame (s : State) (d : Byte) :
    (s.logFormatted d).pending = s.pending
      ∧ (s.logFormatted d).supply = s.supply
      ∧ (s.logFormatted d).pins = s.pins
      ∧ (s.logFormatted d).ctrl = s.ctrl
      ∧ (s.logFormatted d).table = s.table
      ∧ (s.logFormatted d).stage = s.stage
      ∧ (s.logFormatted d).journal = s.journal
      ∧ (s.logFormatted d).writer = s.writer
      ∧ (s.logFormatted d).applier = s.applier
      ∧ (s.logFormatted d).host = s.host
      ∧ (s.logFormatted d).port = s.port
      ∧ (s.logFormatted d).mgmt = s.mgmt
      ∧ (s.logFormatted d).mem = s.mem
      ∧ (s.logFormatted d).freeDraws = s.freeDraws := by
  simp [State.logFormatted]

/-- What `commandedFormatDone` leaves unchanged. -/
@[simp] theorem State.commandedFormatDone_frame (s : State) :
    (s.commandedFormatDone).pending = s.pending
      ∧ (s.commandedFormatDone).supply = s.supply
      ∧ (s.commandedFormatDone).pins = s.pins
      ∧ (s.commandedFormatDone).stage = s.stage
      ∧ (s.commandedFormatDone).writer = s.writer
      ∧ (s.commandedFormatDone).applier = s.applier
      ∧ (s.commandedFormatDone).host = s.host
      ∧ (s.commandedFormatDone).port = s.port
      ∧ (s.commandedFormatDone).mgmt = s.mgmt
      ∧ (s.commandedFormatDone).mem = s.mem
      ∧ (s.commandedFormatDone).freeDraws = s.freeDraws
      ∧ (s.commandedFormatDone).ctrl.cause = s.ctrl.cause
      ∧ (s.commandedFormatDone).ctrl.straps = s.ctrl.straps
      ∧ (s.commandedFormatDone).table.mask = s.table.mask
      ∧ (s.commandedFormatDone).table.defaultClass = s.table.defaultClass := by
  simp [State.commandedFormatDone]

/-- What `autoFormatDone` leaves unchanged. -/
@[simp] theorem State.autoFormatDone_frame (s : State) :
    (s.autoFormatDone).pending = s.pending
      ∧ (s.autoFormatDone).supply = s.supply
      ∧ (s.autoFormatDone).pins = s.pins
      ∧ (s.autoFormatDone).stage = s.stage
      ∧ (s.autoFormatDone).writer = s.writer
      ∧ (s.autoFormatDone).applier = s.applier
      ∧ (s.autoFormatDone).host = s.host
      ∧ (s.autoFormatDone).port = s.port
      ∧ (s.autoFormatDone).mem = s.mem
      ∧ (s.autoFormatDone).freeDraws = s.freeDraws
      ∧ (s.autoFormatDone).ctrl.cause = s.ctrl.cause
      ∧ (s.autoFormatDone).ctrl.straps = s.ctrl.straps
      ∧ (s.autoFormatDone).table.mask = s.table.mask
      ∧ (s.autoFormatDone).table.defaultClass = s.table.defaultClass := by
  simp [State.autoFormatDone]

/-- What `formatTake` leaves unchanged. -/
@[simp] theorem State.formatTake_frame (s : State) :
    (s.formatTake).pending = s.pending
      ∧ (s.formatTake).supply = s.supply
      ∧ (s.formatTake).pins = s.pins
      ∧ (s.formatTake).stage = s.stage
      ∧ (s.formatTake).writer = s.writer
      ∧ (s.formatTake).applier = s.applier
      ∧ (s.formatTake).host = s.host
      ∧ (s.formatTake).port = s.port
      ∧ (s.formatTake).mem = s.mem
      ∧ (s.formatTake).freeDraws = s.freeDraws
      ∧ (s.formatTake).ctrl.cause = s.ctrl.cause
      ∧ (s.formatTake).ctrl.straps = s.ctrl.straps
      ∧ (s.formatTake).table.mask = s.table.mask
      ∧ (s.formatTake).table.defaultClass = s.table.defaultClass := by
  unfold State.formatTake
  (repeat' split) <;> simp

/-- What `describeJournal` leaves unchanged. -/
@[simp] theorem State.describeJournal_frame (s : State) :
    (s.describeJournal).pending = s.pending
      ∧ (s.describeJournal).supply = s.supply
      ∧ (s.describeJournal).pins = s.pins
      ∧ (s.describeJournal).ctrl = s.ctrl
      ∧ (s.describeJournal).table = s.table
      ∧ (s.describeJournal).stage = s.stage
      ∧ (s.describeJournal).writer = s.writer
      ∧ (s.describeJournal).applier = s.applier
      ∧ (s.describeJournal).host = s.host
      ∧ (s.describeJournal).port = s.port
      ∧ (s.describeJournal).events = s.events
      ∧ (s.describeJournal).mgmt = s.mgmt
      ∧ (s.describeJournal).mem = s.mem
      ∧ (s.describeJournal).freeDraws = s.freeDraws := by
  simp [State.describeJournal]

/-- What `scanEnd` leaves unchanged. -/
@[simp] theorem State.scanEnd_frame (s : State) :
    (s.scanEnd).pending = s.pending
      ∧ (s.scanEnd).supply = s.supply
      ∧ (s.scanEnd).pins = s.pins
      ∧ (s.scanEnd).stage = s.stage
      ∧ (s.scanEnd).writer = s.writer
      ∧ (s.scanEnd).applier = s.applier
      ∧ (s.scanEnd).host = s.host
      ∧ (s.scanEnd).port = s.port
      ∧ (s.scanEnd).mem = s.mem
      ∧ (s.scanEnd).freeDraws = s.freeDraws
      ∧ (s.scanEnd).ctrl.cause = s.ctrl.cause
      ∧ (s.scanEnd).ctrl.straps = s.ctrl.straps
      ∧ (s.scanEnd).ctrl.format = s.ctrl.format
      ∧ (s.scanEnd).table.mask = s.table.mask
      ∧ (s.scanEnd).table.defaultClass = s.table.defaultClass := by
  simp [State.scanEnd]

/-- What `recoveryFault` leaves unchanged. -/
@[simp] theorem State.recoveryFault_frame (s : State) :
    (s.recoveryFault).pending = s.pending
      ∧ (s.recoveryFault).supply = s.supply
      ∧ (s.recoveryFault).pins = s.pins
      ∧ (s.recoveryFault).table = s.table
      ∧ (s.recoveryFault).writer = s.writer
      ∧ (s.recoveryFault).applier = s.applier
      ∧ (s.recoveryFault).port = s.port
      ∧ (s.recoveryFault).mem = s.mem
      ∧ (s.recoveryFault).freeDraws = s.freeDraws
      ∧ (s.recoveryFault).ctrl.straps = s.ctrl.straps
      ∧ (s.recoveryFault).ctrl.format = s.ctrl.format
      ∧ (s.recoveryFault).ctrl.loader = s.ctrl.loader
      ∧ (s.recoveryFault).host.addr = s.host.addr
      ∧ (s.recoveryFault).host.kind = s.host.kind
      ∧ (s.recoveryFault).host.data = s.host.data := by
  simp [State.recoveryFault]

/-- What `examine` leaves unchanged. -/
@[simp] theorem State.examine_frame (s : State) :
    (s.examine).pending = s.pending
      ∧ (s.examine).supply = s.supply
      ∧ (s.examine).pins = s.pins
      ∧ (s.examine).stage = s.stage
      ∧ (s.examine).writer = s.writer
      ∧ (s.examine).applier = s.applier
      ∧ (s.examine).host = s.host
      ∧ (s.examine).port = s.port
      ∧ (s.examine).mem = s.mem
      ∧ (s.examine).freeDraws = s.freeDraws
      ∧ (s.examine).ctrl.cause = s.ctrl.cause
      ∧ (s.examine).ctrl.straps = s.ctrl.straps
      ∧ (s.examine).ctrl.format = s.ctrl.format
      ∧ (s.examine).table.mask = s.table.mask
      ∧ (s.examine).table.defaultClass = s.table.defaultClass := by
  unfold State.examine
  dsimp only
  split <;> simp

/-- What `scanDamaged` leaves unchanged. -/
@[simp] theorem State.scanDamaged_frame (s : State) :
    (s.scanDamaged).pending = s.pending
      ∧ (s.scanDamaged).supply = s.supply
      ∧ (s.scanDamaged).pins = s.pins
      ∧ (s.scanDamaged).stage = s.stage
      ∧ (s.scanDamaged).writer = s.writer
      ∧ (s.scanDamaged).applier = s.applier
      ∧ (s.scanDamaged).host = s.host
      ∧ (s.scanDamaged).port = s.port
      ∧ (s.scanDamaged).mem = s.mem
      ∧ (s.scanDamaged).freeDraws = s.freeDraws
      ∧ (s.scanDamaged).ctrl.cause = s.ctrl.cause
      ∧ (s.scanDamaged).ctrl.straps = s.ctrl.straps
      ∧ (s.scanDamaged).ctrl.format = s.ctrl.format
      ∧ (s.scanDamaged).table.mask = s.table.mask
      ∧ (s.scanDamaged).table.defaultClass = s.table.defaultClass := by
  simp [State.scanDamaged]

/-- What `followPad` leaves unchanged. -/
@[simp] theorem State.followPad_frame (s : State) :
    (s.followPad).pending = s.pending
      ∧ (s.followPad).supply = s.supply
      ∧ (s.followPad).pins = s.pins
      ∧ (s.followPad).stage = s.stage
      ∧ (s.followPad).writer = s.writer
      ∧ (s.followPad).applier = s.applier
      ∧ (s.followPad).host = s.host
      ∧ (s.followPad).port = s.port
      ∧ (s.followPad).mem = s.mem
      ∧ (s.followPad).freeDraws = s.freeDraws
      ∧ (s.followPad).ctrl.cause = s.ctrl.cause
      ∧ (s.followPad).ctrl.straps = s.ctrl.straps
      ∧ (s.followPad).ctrl.format = s.ctrl.format
      ∧ (s.followPad).table.mask = s.table.mask
      ∧ (s.followPad).table.defaultClass = s.table.defaultClass := by
  simp [State.followPad]

/-- What `passLag` leaves unchanged. -/
@[simp] theorem State.passLag_frame (s : State) (l : Nat) :
    (s.passLag l).pending = s.pending
      ∧ (s.passLag l).supply = s.supply
      ∧ (s.passLag l).pins = s.pins
      ∧ (s.passLag l).stage = s.stage
      ∧ (s.passLag l).writer = s.writer
      ∧ (s.passLag l).applier = s.applier
      ∧ (s.passLag l).host = s.host
      ∧ (s.passLag l).port = s.port
      ∧ (s.passLag l).mem = s.mem
      ∧ (s.passLag l).freeDraws = s.freeDraws
      ∧ (s.passLag l).ctrl.cause = s.ctrl.cause
      ∧ (s.passLag l).ctrl.straps = s.ctrl.straps
      ∧ (s.passLag l).ctrl.format = s.ctrl.format
      ∧ (s.passLag l).table.mask = s.table.mask
      ∧ (s.passLag l).table.defaultClass = s.table.defaultClass := by
  simp [State.passLag]

/-- What `beginReplay` leaves unchanged. -/
@[simp] theorem State.beginReplay_frame (s : State) (g : List Segment) (l : Nat) :
    (s.beginReplay g l).pending = s.pending
      ∧ (s.beginReplay g l).supply = s.supply
      ∧ (s.beginReplay g l).pins = s.pins
      ∧ (s.beginReplay g l).table = s.table
      ∧ (s.beginReplay g l).journal = s.journal
      ∧ (s.beginReplay g l).writer = s.writer
      ∧ (s.beginReplay g l).applier = s.applier
      ∧ (s.beginReplay g l).host = s.host
      ∧ (s.beginReplay g l).port = s.port
      ∧ (s.beginReplay g l).events = s.events
      ∧ (s.beginReplay g l).mgmt = s.mgmt
      ∧ (s.beginReplay g l).mem = s.mem
      ∧ (s.beginReplay g l).freeDraws = s.freeDraws
      ∧ (s.beginReplay g l).ctrl.opState = s.ctrl.opState
      ∧ (s.beginReplay g l).ctrl.hrsto = s.ctrl.hrsto
      ∧ (s.beginReplay g l).ctrl.cause = s.ctrl.cause
      ∧ (s.beginReplay g l).ctrl.straps = s.ctrl.straps
      ∧ (s.beginReplay g l).ctrl.format = s.ctrl.format
      ∧ (s.beginReplay g l).ctrl.loader = s.ctrl.loader := by
  simp [State.beginReplay]

/-- What `scanMark` leaves unchanged. -/
@[simp] theorem State.scanMark_frame (s : State) (b : Byte) :
    (s.scanMark b).pending = s.pending
      ∧ (s.scanMark b).supply = s.supply
      ∧ (s.scanMark b).pins = s.pins
      ∧ (s.scanMark b).stage = s.stage
      ∧ (s.scanMark b).writer = s.writer
      ∧ (s.scanMark b).applier = s.applier
      ∧ (s.scanMark b).host = s.host
      ∧ (s.scanMark b).port = s.port
      ∧ (s.scanMark b).mem = s.mem
      ∧ (s.scanMark b).freeDraws = s.freeDraws
      ∧ (s.scanMark b).ctrl.cause = s.ctrl.cause
      ∧ (s.scanMark b).ctrl.straps = s.ctrl.straps
      ∧ (s.scanMark b).ctrl.format = s.ctrl.format
      ∧ (s.scanMark b).table.mask = s.table.mask
      ∧ (s.scanMark b).table.defaultClass = s.table.defaultClass := by
  unfold State.scanMark
  dsimp only
  (repeat' split) <;> simp

/-- What `scanUnfit` leaves unchanged. -/
@[simp] theorem State.scanUnfit_frame (s : State) (bs : List Byte) :
    (s.scanUnfit bs).pending = s.pending
      ∧ (s.scanUnfit bs).supply = s.supply
      ∧ (s.scanUnfit bs).pins = s.pins
      ∧ (s.scanUnfit bs).stage = s.stage
      ∧ (s.scanUnfit bs).writer = s.writer
      ∧ (s.scanUnfit bs).applier = s.applier
      ∧ (s.scanUnfit bs).host = s.host
      ∧ (s.scanUnfit bs).port = s.port
      ∧ (s.scanUnfit bs).mem = s.mem
      ∧ (s.scanUnfit bs).freeDraws = s.freeDraws
      ∧ (s.scanUnfit bs).ctrl.cause = s.ctrl.cause
      ∧ (s.scanUnfit bs).ctrl.straps = s.ctrl.straps
      ∧ (s.scanUnfit bs).ctrl.format = s.ctrl.format
      ∧ (s.scanUnfit bs).table.mask = s.table.mask
      ∧ (s.scanUnfit bs).table.defaultClass = s.table.defaultClass := by
  unfold State.scanUnfit
  dsimp only
  split <;> simp

/-- What `scanHeader` leaves unchanged. -/
@[simp] theorem State.scanHeader_frame (s : State) (bs : List Byte) :
    (s.scanHeader bs).pending = s.pending
      ∧ (s.scanHeader bs).supply = s.supply
      ∧ (s.scanHeader bs).pins = s.pins
      ∧ (s.scanHeader bs).stage = s.stage
      ∧ (s.scanHeader bs).writer = s.writer
      ∧ (s.scanHeader bs).applier = s.applier
      ∧ (s.scanHeader bs).host = s.host
      ∧ (s.scanHeader bs).port = s.port
      ∧ (s.scanHeader bs).mem = s.mem
      ∧ (s.scanHeader bs).freeDraws = s.freeDraws
      ∧ (s.scanHeader bs).ctrl.cause = s.ctrl.cause
      ∧ (s.scanHeader bs).ctrl.straps = s.ctrl.straps
      ∧ (s.scanHeader bs).ctrl.format = s.ctrl.format
      ∧ (s.scanHeader bs).table.mask = s.table.mask
      ∧ (s.scanHeader bs).table.defaultClass = s.table.defaultClass := by
  unfold State.scanHeader
  dsimp only
  split <;> simp

/-- What `scanEntry` leaves unchanged. -/
@[simp] theorem State.scanEntry_frame (s : State) (bs : List Byte) :
    (s.scanEntry bs).pending = s.pending
      ∧ (s.scanEntry bs).supply = s.supply
      ∧ (s.scanEntry bs).pins = s.pins
      ∧ (s.scanEntry bs).writer = s.writer
      ∧ (s.scanEntry bs).applier = s.applier
      ∧ (s.scanEntry bs).host = s.host
      ∧ (s.scanEntry bs).port = s.port
      ∧ (s.scanEntry bs).mem = s.mem
      ∧ (s.scanEntry bs).freeDraws = s.freeDraws
      ∧ (s.scanEntry bs).ctrl.cause = s.ctrl.cause
      ∧ (s.scanEntry bs).ctrl.straps = s.ctrl.straps
      ∧ (s.scanEntry bs).ctrl.format = s.ctrl.format
      ∧ (s.scanEntry bs).table.mask = s.table.mask
      ∧ (s.scanEntry bs).table.defaultClass = s.table.defaultClass := by
  unfold State.scanEntry
  dsimp only
  (repeat' split) <;> simp

/-- What `scanTake` leaves unchanged. -/
@[simp] theorem State.scanTake_frame (s : State) (b : Byte) :
    (s.scanTake b).pending = s.pending
      ∧ (s.scanTake b).supply = s.supply
      ∧ (s.scanTake b).pins = s.pins
      ∧ (s.scanTake b).writer = s.writer
      ∧ (s.scanTake b).applier = s.applier
      ∧ (s.scanTake b).host = s.host
      ∧ (s.scanTake b).port = s.port
      ∧ (s.scanTake b).mem = s.mem
      ∧ (s.scanTake b).freeDraws = s.freeDraws
      ∧ (s.scanTake b).ctrl.cause = s.ctrl.cause
      ∧ (s.scanTake b).ctrl.straps = s.ctrl.straps
      ∧ (s.scanTake b).ctrl.format = s.ctrl.format
      ∧ (s.scanTake b).table.mask = s.table.mask
      ∧ (s.scanTake b).table.defaultClass = s.table.defaultClass := by
  unfold State.scanTake
  dsimp only
  (repeat' split) <;> simp

/-- What `enterLocked` leaves unchanged. -/
@[simp] theorem State.enterLocked_frame (s : State) :
    (s.enterLocked).pending = s.pending
      ∧ (s.enterLocked).supply = s.supply
      ∧ (s.enterLocked).pins = s.pins
      ∧ (s.enterLocked).table = s.table
      ∧ (s.enterLocked).writer = s.writer
      ∧ (s.enterLocked).applier = s.applier
      ∧ (s.enterLocked).port = s.port
      ∧ (s.enterLocked).mem = s.mem
      ∧ (s.enterLocked).freeDraws = s.freeDraws
      ∧ (s.enterLocked).ctrl.cause = s.ctrl.cause
      ∧ (s.enterLocked).ctrl.straps = s.ctrl.straps
      ∧ (s.enterLocked).ctrl.format = s.ctrl.format
      ∧ (s.enterLocked).ctrl.loader = s.ctrl.loader
      ∧ (s.enterLocked).host.addr = s.host.addr
      ∧ (s.enterLocked).host.kind = s.host.kind
      ∧ (s.enterLocked).host.data = s.host.data := by
  simp [State.enterLocked]

/-- What `beginAutoFormat` leaves unchanged. -/
@[simp] theorem State.beginAutoFormat_frame (s : State) :
    (s.beginAutoFormat).pending = s.pending
      ∧ (s.beginAutoFormat).supply = s.supply
      ∧ (s.beginAutoFormat).pins = s.pins
      ∧ (s.beginAutoFormat).table = s.table
      ∧ (s.beginAutoFormat).stage = s.stage
      ∧ (s.beginAutoFormat).journal = s.journal
      ∧ (s.beginAutoFormat).writer = s.writer
      ∧ (s.beginAutoFormat).applier = s.applier
      ∧ (s.beginAutoFormat).host = s.host
      ∧ (s.beginAutoFormat).port = s.port
      ∧ (s.beginAutoFormat).events = s.events
      ∧ (s.beginAutoFormat).mgmt = s.mgmt
      ∧ (s.beginAutoFormat).mem = s.mem
      ∧ (s.beginAutoFormat).freeDraws = s.freeDraws
      ∧ (s.beginAutoFormat).ctrl.opState = s.ctrl.opState
      ∧ (s.beginAutoFormat).ctrl.hrsto = s.ctrl.hrsto
      ∧ (s.beginAutoFormat).ctrl.cause = s.ctrl.cause
      ∧ (s.beginAutoFormat).ctrl.straps = s.ctrl.straps
      ∧ (s.beginAutoFormat).ctrl.loader = s.ctrl.loader := by
  simp [State.beginAutoFormat]

/-- What `anchorsRead` leaves unchanged. -/
@[simp] theorem State.anchorsRead_frame (s : State) (bs : List Byte) :
    (s.anchorsRead bs).pending = s.pending
      ∧ (s.anchorsRead bs).supply = s.supply
      ∧ (s.anchorsRead bs).pins = s.pins
      ∧ (s.anchorsRead bs).writer = s.writer
      ∧ (s.anchorsRead bs).applier = s.applier
      ∧ (s.anchorsRead bs).port = s.port
      ∧ (s.anchorsRead bs).mem = s.mem
      ∧ (s.anchorsRead bs).freeDraws = s.freeDraws
      ∧ (s.anchorsRead bs).ctrl.cause = s.ctrl.cause
      ∧ (s.anchorsRead bs).ctrl.straps = s.ctrl.straps
      ∧ (s.anchorsRead bs).table.mask = s.table.mask
      ∧ (s.anchorsRead bs).table.defaultClass = s.table.defaultClass
      ∧ (s.anchorsRead bs).host.addr = s.host.addr
      ∧ (s.anchorsRead bs).host.kind = s.host.kind
      ∧ (s.anchorsRead bs).host.data = s.host.data := by
  unfold State.anchorsRead
  dsimp only
  (repeat' split) <;> simp

/-- What `anchorsTake` leaves unchanged. -/
@[simp] theorem State.anchorsTake_frame (s : State) (b : Byte) :
    (s.anchorsTake b).pending = s.pending
      ∧ (s.anchorsTake b).supply = s.supply
      ∧ (s.anchorsTake b).pins = s.pins
      ∧ (s.anchorsTake b).writer = s.writer
      ∧ (s.anchorsTake b).applier = s.applier
      ∧ (s.anchorsTake b).port = s.port
      ∧ (s.anchorsTake b).mem = s.mem
      ∧ (s.anchorsTake b).freeDraws = s.freeDraws
      ∧ (s.anchorsTake b).ctrl.cause = s.ctrl.cause
      ∧ (s.anchorsTake b).ctrl.straps = s.ctrl.straps
      ∧ (s.anchorsTake b).table.mask = s.table.mask
      ∧ (s.anchorsTake b).table.defaultClass = s.table.defaultClass
      ∧ (s.anchorsTake b).host.addr = s.host.addr
      ∧ (s.anchorsTake b).host.kind = s.host.kind
      ∧ (s.anchorsTake b).host.data = s.host.data := by
  unfold State.anchorsTake
  dsimp only
  split <;> simp

/-- What `replayDone` leaves unchanged. -/
@[simp] theorem State.replayDone_frame (s : State) :
    (s.replayDone).pending = s.pending
      ∧ (s.replayDone).supply = s.supply
      ∧ (s.replayDone).pins = s.pins
      ∧ (s.replayDone).stage = s.stage
      ∧ (s.replayDone).writer = s.writer
      ∧ (s.replayDone).applier = s.applier
      ∧ (s.replayDone).host = s.host
      ∧ (s.replayDone).port = s.port
      ∧ (s.replayDone).mem = s.mem
      ∧ (s.replayDone).freeDraws = s.freeDraws
      ∧ (s.replayDone).ctrl.cause = s.ctrl.cause
      ∧ (s.replayDone).ctrl.straps = s.ctrl.straps
      ∧ (s.replayDone).ctrl.format = s.ctrl.format
      ∧ (s.replayDone).table.mask = s.table.mask
      ∧ (s.replayDone).table.defaultClass = s.table.defaultClass := by
  simp [State.replayDone]

/-- What `replayFault` leaves unchanged. -/
@[simp] theorem State.replayFault_frame (s : State) (a : Nat) :
    (s.replayFault a).pending = s.pending
      ∧ (s.replayFault a).supply = s.supply
      ∧ (s.replayFault a).pins = s.pins
      ∧ (s.replayFault a).table = s.table
      ∧ (s.replayFault a).writer = s.writer
      ∧ (s.replayFault a).applier = s.applier
      ∧ (s.replayFault a).port = s.port
      ∧ (s.replayFault a).mem = s.mem
      ∧ (s.replayFault a).freeDraws = s.freeDraws
      ∧ (s.replayFault a).ctrl.straps = s.ctrl.straps
      ∧ (s.replayFault a).ctrl.format = s.ctrl.format
      ∧ (s.replayFault a).ctrl.loader = s.ctrl.loader
      ∧ (s.replayFault a).host.addr = s.host.addr
      ∧ (s.replayFault a).host.kind = s.host.kind
      ∧ (s.replayFault a).host.data = s.host.data := by
  unfold State.replayFault
  dsimp only
  split <;> simp

/-- What `replayAdvance` leaves unchanged. -/
@[simp] theorem State.replayAdvance_frame (s : State) (x : StepResult) :
    (s.replayAdvance x).pending = s.pending
      ∧ (s.replayAdvance x).supply = s.supply
      ∧ (s.replayAdvance x).pins = s.pins
      ∧ (s.replayAdvance x).writer = s.writer
      ∧ (s.replayAdvance x).applier = s.applier
      ∧ (s.replayAdvance x).port = s.port
      ∧ (s.replayAdvance x).mem = s.mem
      ∧ (s.replayAdvance x).freeDraws = s.freeDraws
      ∧ (s.replayAdvance x).ctrl.straps = s.ctrl.straps
      ∧ (s.replayAdvance x).ctrl.format = s.ctrl.format
      ∧ (s.replayAdvance x).table.mask = s.table.mask
      ∧ (s.replayAdvance x).table.defaultClass = s.table.defaultClass
      ∧ (s.replayAdvance x).host.addr = s.host.addr
      ∧ (s.replayAdvance x).host.kind = s.host.kind
      ∧ (s.replayAdvance x).host.data = s.host.data := by
  unfold State.replayAdvance
  dsimp only
  (repeat' split) <;> simp

/-- What `recoveryTake` leaves unchanged. -/
@[simp] theorem State.recoveryTake_frame (s : State) (b : Byte) :
    (s.recoveryTake b).pending = s.pending
      ∧ (s.recoveryTake b).supply = s.supply
      ∧ (s.recoveryTake b).pins = s.pins
      ∧ (s.recoveryTake b).writer = s.writer
      ∧ (s.recoveryTake b).applier = s.applier
      ∧ (s.recoveryTake b).port = s.port
      ∧ (s.recoveryTake b).mem = s.mem
      ∧ (s.recoveryTake b).freeDraws = s.freeDraws
      ∧ (s.recoveryTake b).ctrl.straps = s.ctrl.straps
      ∧ (s.recoveryTake b).table.mask = s.table.mask
      ∧ (s.recoveryTake b).table.defaultClass = s.table.defaultClass
      ∧ (s.recoveryTake b).host.addr = s.host.addr
      ∧ (s.recoveryTake b).host.kind = s.host.kind
      ∧ (s.recoveryTake b).host.data = s.host.data := by
  unfold State.recoveryTake
  split <;> simp

/-- What `systemTake` leaves unchanged. -/
@[simp] theorem State.systemTake_frame (s : State) (b : Byte) :
    (s.systemTake b).pending = s.pending
      ∧ (s.systemTake b).supply = s.supply
      ∧ (s.systemTake b).pins = s.pins
      ∧ (s.systemTake b).writer = s.writer
      ∧ (s.systemTake b).applier = s.applier
      ∧ (s.systemTake b).port = s.port
      ∧ (s.systemTake b).mem = s.mem
      ∧ (s.systemTake b).freeDraws = s.freeDraws
      ∧ (s.systemTake b).ctrl.straps = s.ctrl.straps
      ∧ (s.systemTake b).host.addr = s.host.addr
      ∧ (s.systemTake b).host.kind = s.host.kind
      ∧ (s.systemTake b).host.data = s.host.data := by
  unfold State.systemTake
  split <;> simp

/-- What `grantSystem` leaves unchanged. -/
@[simp] theorem State.grantSystem_frame (s : State) :
    (s.grantSystem).pending = s.pending
      ∧ (s.grantSystem).supply = s.supply
      ∧ (s.grantSystem).pins = s.pins
      ∧ (s.grantSystem).ctrl = s.ctrl
      ∧ (s.grantSystem).table = s.table
      ∧ (s.grantSystem).stage = s.stage
      ∧ (s.grantSystem).journal = s.journal
      ∧ (s.grantSystem).writer = s.writer
      ∧ (s.grantSystem).applier = s.applier
      ∧ (s.grantSystem).host = s.host
      ∧ (s.grantSystem).events = s.events
      ∧ (s.grantSystem).mgmt = s.mgmt
      ∧ (s.grantSystem).mem = s.mem
      ∧ (s.grantSystem).freeDraws = s.freeDraws := by
  unfold State.grantSystem
  (repeat' split) <;> simp

/-- What `grant` leaves unchanged. -/
@[simp] theorem State.grant_frame (s : State) :
    (s.grant).pending = s.pending
      ∧ (s.grant).supply = s.supply
      ∧ (s.grant).pins = s.pins
      ∧ (s.grant).ctrl = s.ctrl
      ∧ (s.grant).table = s.table
      ∧ (s.grant).stage = s.stage
      ∧ (s.grant).journal = s.journal
      ∧ (s.grant).writer = s.writer
      ∧ (s.grant).applier = s.applier
      ∧ (s.grant).events = s.events
      ∧ (s.grant).mgmt = s.mgmt
      ∧ (s.grant).mem = s.mem
      ∧ (s.grant).freeDraws = s.freeDraws
      ∧ (s.grant).host.addr = s.host.addr
      ∧ (s.grant).host.kind = s.host.kind
      ∧ (s.grant).host.data = s.host.data := by
  unfold State.grant
  split <;> simp

end Sys2Proof.Machine
end

