-- ==== Sys2Proof/Laws/Commands.lean ====
section
/-! SUPPORT. What each shared operation of Machine/the command files leaves unchanged, once for each. -/

namespace Sys2Proof.Machine

/-- What `deliver` leaves unchanged. -/
@[simp] theorem State.deliver_frame (s : State) (w : AccessOwner) (b : Byte) (o : Order) :
    (s.deliver w b o).pending = s.pending
      ∧ (s.deliver w b o).supply = s.supply
      ∧ (s.deliver w b o).pins = s.pins
      ∧ (s.deliver w b o).mem = s.mem
      ∧ (s.deliver w b o).freeDraws = s.freeDraws
      ∧ (s.deliver w b o).ctrl.straps = s.ctrl.straps := by
  unfold State.deliver
  split <;> simp

/-- What `grantBy` leaves unchanged. -/
@[simp] theorem State.grantBy_frame (s : State) (o : Order) :
    (s.grantBy o).pending = s.pending
      ∧ (s.grantBy o).supply = s.supply
      ∧ (s.grantBy o).pins = s.pins
      ∧ (s.grantBy o).ctrl = s.ctrl
      ∧ (s.grantBy o).table = s.table
      ∧ (s.grantBy o).stage = s.stage
      ∧ (s.grantBy o).journal = s.journal
      ∧ (s.grantBy o).writer = s.writer
      ∧ (s.grantBy o).applier = s.applier
      ∧ (s.grantBy o).events = s.events
      ∧ (s.grantBy o).mgmt = s.mgmt
      ∧ (s.grantBy o).mem = s.mem
      ∧ (s.grantBy o).freeDraws = s.freeDraws
      ∧ (s.grantBy o).host.addr = s.host.addr
      ∧ (s.grantBy o).host.kind = s.host.kind
      ∧ (s.grantBy o).host.data = s.host.data := by
  unfold State.grantBy
  split <;> simp

/-- What `chooseThenHeld` leaves unchanged. -/
@[simp] theorem State.chooseThenHeld_frame (s : State) :
    (s.chooseThenHeld).pending = s.pending
      ∧ (s.chooseThenHeld).supply = s.supply
      ∧ (s.chooseThenHeld).pins = s.pins
      ∧ (s.chooseThenHeld).ctrl = s.ctrl
      ∧ (s.chooseThenHeld).table = s.table
      ∧ (s.chooseThenHeld).journal = s.journal
      ∧ (s.chooseThenHeld).writer = s.writer
      ∧ (s.chooseThenHeld).applier = s.applier
      ∧ (s.chooseThenHeld).mgmt = s.mgmt
      ∧ (s.chooseThenHeld).mem = s.mem
      ∧ (s.chooseThenHeld).freeDraws = s.freeDraws
      ∧ (s.chooseThenHeld).host.addr = s.host.addr
      ∧ (s.chooseThenHeld).host.kind = s.host.kind
      ∧ (s.chooseThenHeld).host.data = s.host.data := by
  unfold State.chooseThenHeld
  dsimp only
  split <;> simp

/-- What `afterAccess` leaves unchanged. -/
@[simp] theorem State.afterAccess_frame (s : State) (o : Order) :
    (s.afterAccess o).pending = s.pending
      ∧ (s.afterAccess o).supply = s.supply
      ∧ (s.afterAccess o).pins = s.pins
      ∧ (s.afterAccess o).ctrl = s.ctrl
      ∧ (s.afterAccess o).table = s.table
      ∧ (s.afterAccess o).journal = s.journal
      ∧ (s.afterAccess o).writer = s.writer
      ∧ (s.afterAccess o).applier = s.applier
      ∧ (s.afterAccess o).mgmt = s.mgmt
      ∧ (s.afterAccess o).mem = s.mem
      ∧ (s.afterAccess o).freeDraws = s.freeDraws
      ∧ (s.afterAccess o).host.addr = s.host.addr
      ∧ (s.afterAccess o).host.kind = s.host.kind
      ∧ (s.afterAccess o).host.data = s.host.data := by
  unfold State.afterAccess
  cases o <;> dsimp only <;> (repeat' split) <;> simp

/-- What `freeze` leaves unchanged. -/
@[simp] theorem State.freeze_frame (s : State) :
    (s.freeze).pending = s.pending
      ∧ (s.freeze).supply = s.supply
      ∧ (s.freeze).pins = s.pins
      ∧ (s.freeze).table = s.table
      ∧ (s.freeze).stage = s.stage
      ∧ (s.freeze).journal = s.journal
      ∧ (s.freeze).writer = s.writer
      ∧ (s.freeze).applier = s.applier
      ∧ (s.freeze).events = s.events
      ∧ (s.freeze).mem = s.mem
      ∧ (s.freeze).freeDraws = s.freeDraws
      ∧ (s.freeze).ctrl.cause = s.ctrl.cause
      ∧ (s.freeze).ctrl.straps = s.ctrl.straps
      ∧ (s.freeze).ctrl.format = s.ctrl.format
      ∧ (s.freeze).ctrl.loader = s.ctrl.loader := by
  simp [State.freeze]

/-- What `clearVolatile` leaves unchanged. -/
@[simp] theorem State.clearVolatile_frame (s : State) (t : Straps) :
    (s.clearVolatile t).pending = s.pending
      ∧ (s.clearVolatile t).supply = s.supply
      ∧ (s.clearVolatile t).pins = s.pins
      ∧ (s.clearVolatile t).host = s.host
      ∧ (s.clearVolatile t).mgmt = s.mgmt
      ∧ (s.clearVolatile t).mem = s.mem
      ∧ (s.clearVolatile t).freeDraws = s.freeDraws := by
  simp [State.clearVolatile]

/-- The end of STARTING keeps a held cycle, and leaves the host port IDLE without one. -/
theorem HostPort.afterStarting_cases (h : HostPort) :
    (h.phase = .holding ∧ h.afterStarting = h) ∨ (h.phase ≠ .holding ∧ h.afterStarting = HostPort.idle) := by
  unfold HostPort.afterStarting
  split <;> simp [*]

/-- What `startUp` leaves unchanged. -/
@[simp] theorem State.startUp_frame (s : State) (t : Straps) :
    (s.startUp t).pending = s.pending
      ∧ (s.startUp t).supply = s.supply
      ∧ (s.startUp t).pins = s.pins
      ∧ (s.startUp t).mem = s.mem
      ∧ (s.startUp t).freeDraws = s.freeDraws := by
  simp [State.startUp]

/-- What `endStarting` leaves unchanged. -/
@[simp] theorem State.endStarting_frame (s : State) :
    (s.endStarting).pending = s.pending
      ∧ (s.endStarting).supply = s.supply
      ∧ (s.endStarting).pins = s.pins
      ∧ (s.endStarting).table = s.table
      ∧ (s.endStarting).stage = s.stage
      ∧ (s.endStarting).journal = s.journal
      ∧ (s.endStarting).writer = s.writer
      ∧ (s.endStarting).applier = s.applier
      ∧ (s.endStarting).events = s.events
      ∧ (s.endStarting).mem = s.mem
      ∧ (s.endStarting).freeDraws = s.freeDraws := by
  unfold State.endStarting
  split <;> simp

/-- What `lost` leaves unchanged. -/
@[simp] theorem State.lost_frame (s : State) :
    (s.lost).pending = s.pending
      ∧ (s.lost).pins = s.pins
      ∧ (s.lost).mem = s.mem := by
  simp [State.lost]

/-- What `stopOnPfail` leaves unchanged. -/
@[simp] theorem State.stopOnPfail_frame (s : State) :
    (s.stopOnPfail).pending = s.pending
      ∧ (s.stopOnPfail).supply = s.supply
      ∧ (s.stopOnPfail).pins = s.pins
      ∧ (s.stopOnPfail).mem = s.mem
      ∧ (s.stopOnPfail).freeDraws = s.freeDraws := by
  unfold State.stopOnPfail
  split <;> simp

/-- What `restart` leaves unchanged. -/
@[simp] theorem State.restart_frame (s : State) :
    (s.restart).pending = s.pending
      ∧ (s.restart).supply = s.supply
      ∧ (s.restart).pins = s.pins
      ∧ (s.restart).events = s.events
      ∧ (s.restart).mem = s.mem
      ∧ (s.restart).freeDraws = s.freeDraws
      ∧ (s.restart).ctrl.opState = s.ctrl.opState
      ∧ (s.restart).ctrl.hrsto = s.ctrl.hrsto
      ∧ (s.restart).ctrl.straps = s.ctrl.straps
      ∧ (s.restart).table.mask = s.table.mask := by
  simp [State.restart]

/-- What `discardOpen` leaves unchanged. -/
@[simp] theorem State.discardOpen_frame (s : State) :
    (s.discardOpen).pending = s.pending
      ∧ (s.discardOpen).supply = s.supply
      ∧ (s.discardOpen).pins = s.pins
      ∧ (s.discardOpen).ctrl = s.ctrl
      ∧ (s.discardOpen).table = s.table
      ∧ (s.discardOpen).journal = s.journal
      ∧ (s.discardOpen).writer = s.writer
      ∧ (s.discardOpen).applier = s.applier
      ∧ (s.discardOpen).host = s.host
      ∧ (s.discardOpen).port = s.port
      ∧ (s.discardOpen).mgmt = s.mgmt
      ∧ (s.discardOpen).mem = s.mem
      ∧ (s.discardOpen).freeDraws = s.freeDraws := by
  unfold State.discardOpen
  dsimp only
  split <;> simp

/-- What `takeBytes` leaves unchanged. -/
@[simp] theorem State.takeBytes_frame (s : State) (c : MgmtCommand) (ps : List Byte) :
    (s.takeBytes c ps).pending = s.pending
      ∧ (s.takeBytes c ps).supply = s.supply
      ∧ (s.takeBytes c ps).pins = s.pins
      ∧ (s.takeBytes c ps).ctrl = s.ctrl
      ∧ (s.takeBytes c ps).table = s.table
      ∧ (s.takeBytes c ps).stage = s.stage
      ∧ (s.takeBytes c ps).journal = s.journal
      ∧ (s.takeBytes c ps).writer = s.writer
      ∧ (s.takeBytes c ps).applier = s.applier
      ∧ (s.takeBytes c ps).host = s.host
      ∧ (s.takeBytes c ps).port = s.port
      ∧ (s.takeBytes c ps).events = s.events
      ∧ (s.takeBytes c ps).mem = s.mem
      ∧ (s.takeBytes c ps).freeDraws = s.freeDraws := by
  unfold State.takeBytes
  split <;> simp


/-- What `tick` leaves unchanged. -/
@[simp] theorem State.tick_frame (s : State) :
    (s.tick).pending = s.pending
      ∧ (s.tick).supply = s.supply
      ∧ (s.tick).pins = s.pins
      ∧ (s.tick).ctrl = s.ctrl
      ∧ (s.tick).table = s.table
      ∧ (s.tick).stage = s.stage
      ∧ (s.tick).journal = s.journal
      ∧ (s.tick).writer = s.writer
      ∧ (s.tick).applier = s.applier
      ∧ (s.tick).host = s.host
      ∧ (s.tick).port = s.port
      ∧ (s.tick).events = s.events
      ∧ (s.tick).mem = s.mem
      ∧ (s.tick).freeDraws = s.freeDraws := by
  unfold State.tick
  split <;> simp


/-- What `reply` leaves unchanged. -/
@[simp] theorem State.reply_frame (s : State) (c : MgmtCommand) (ps : List Byte) (st : Status) (bs : List Byte) :
    (s.reply c ps st bs).pending = s.pending
      ∧ (s.reply c ps st bs).supply = s.supply
      ∧ (s.reply c ps st bs).pins = s.pins
      ∧ (s.reply c ps st bs).ctrl = s.ctrl
      ∧ (s.reply c ps st bs).table = s.table
      ∧ (s.reply c ps st bs).stage = s.stage
      ∧ (s.reply c ps st bs).journal = s.journal
      ∧ (s.reply c ps st bs).writer = s.writer
      ∧ (s.reply c ps st bs).applier = s.applier
      ∧ (s.reply c ps st bs).host = s.host
      ∧ (s.reply c ps st bs).port = s.port
      ∧ (s.reply c ps st bs).events = s.events
      ∧ (s.reply c ps st bs).mem = s.mem
      ∧ (s.reply c ps st bs).freeDraws = s.freeDraws := by
  simp [State.reply]

/-- What `lastByteOut` leaves unchanged. -/
@[simp] theorem State.lastByteOut_frame (s : State) :
    (s.lastByteOut).pending = s.pending
      ∧ (s.lastByteOut).supply = s.supply
      ∧ (s.lastByteOut).pins = s.pins
      ∧ (s.lastByteOut).ctrl = s.ctrl
      ∧ (s.lastByteOut).table = s.table
      ∧ (s.lastByteOut).stage = s.stage
      ∧ (s.lastByteOut).journal = s.journal
      ∧ (s.lastByteOut).writer = s.writer
      ∧ (s.lastByteOut).applier = s.applier
      ∧ (s.lastByteOut).host = s.host
      ∧ (s.lastByteOut).port = s.port
      ∧ (s.lastByteOut).events = s.events
      ∧ (s.lastByteOut).mem = s.mem
      ∧ (s.lastByteOut).freeDraws = s.freeDraws := by
  simp [State.lastByteOut]

/-- What `replyHead` leaves unchanged. -/
@[simp] theorem State.replyHead_frame (s : State) (c : MgmtCommand) :
    (s.replyHead c).pending = s.pending
      ∧ (s.replyHead c).supply = s.supply
      ∧ (s.replyHead c).pins = s.pins
      ∧ (s.replyHead c).ctrl = s.ctrl
      ∧ (s.replyHead c).table = s.table
      ∧ (s.replyHead c).stage = s.stage
      ∧ (s.replyHead c).journal = s.journal
      ∧ (s.replyHead c).writer = s.writer
      ∧ (s.replyHead c).applier = s.applier
      ∧ (s.replyHead c).host = s.host
      ∧ (s.replyHead c).port = s.port
      ∧ (s.replyHead c).events = s.events
      ∧ (s.replyHead c).mem = s.mem
      ∧ (s.replyHead c).freeDraws = s.freeDraws := by
  unfold State.replyHead
  split <;> simp

/-- What `writeEntry` leaves unchanged. -/
@[simp] theorem State.writeEntry_frame (s : State) (i : Fin 8) (e : RegionEntry) :
    (s.writeEntry i e).pending = s.pending
      ∧ (s.writeEntry i e).supply = s.supply
      ∧ (s.writeEntry i e).pins = s.pins
      ∧ (s.writeEntry i e).ctrl = s.ctrl
      ∧ (s.writeEntry i e).stage = s.stage
      ∧ (s.writeEntry i e).journal = s.journal
      ∧ (s.writeEntry i e).writer = s.writer
      ∧ (s.writeEntry i e).applier = s.applier
      ∧ (s.writeEntry i e).host = s.host
      ∧ (s.writeEntry i e).port = s.port
      ∧ (s.writeEntry i e).events = s.events
      ∧ (s.writeEntry i e).mgmt = s.mgmt
      ∧ (s.writeEntry i e).mem = s.mem
      ∧ (s.writeEntry i e).freeDraws = s.freeDraws
      ∧ (s.writeEntry i e).table.mask = s.table.mask
      ∧ (s.writeEntry i e).table.defaultClass = s.table.defaultClass := by
  simp [State.writeEntry]

/-- What `beginClearing` leaves unchanged. -/
@[simp] theorem State.beginClearing_frame (s : State) :
    (s.beginClearing).pending = s.pending
      ∧ (s.beginClearing).supply = s.supply
      ∧ (s.beginClearing).pins = s.pins
      ∧ (s.beginClearing).ctrl = s.ctrl
      ∧ (s.beginClearing).table = s.table
      ∧ (s.beginClearing).stage = s.stage
      ∧ (s.beginClearing).journal = s.journal
      ∧ (s.beginClearing).applier = s.applier
      ∧ (s.beginClearing).host = s.host
      ∧ (s.beginClearing).port = s.port
      ∧ (s.beginClearing).events = s.events
      ∧ (s.beginClearing).mgmt = s.mgmt
      ∧ (s.beginClearing).mem = s.mem
      ∧ (s.beginClearing).freeDraws = s.freeDraws := by
  simp [State.beginClearing]

/-- What `resumeWriter` leaves unchanged. -/
@[simp] theorem State.resumeWriter_frame (s : State) :
    (s.resumeWriter).pending = s.pending
      ∧ (s.resumeWriter).supply = s.supply
      ∧ (s.resumeWriter).pins = s.pins
      ∧ (s.resumeWriter).ctrl = s.ctrl
      ∧ (s.resumeWriter).table = s.table
      ∧ (s.resumeWriter).stage = s.stage
      ∧ (s.resumeWriter).journal = s.journal
      ∧ (s.resumeWriter).applier = s.applier
      ∧ (s.resumeWriter).host = s.host
      ∧ (s.resumeWriter).port = s.port
      ∧ (s.resumeWriter).events = s.events
      ∧ (s.resumeWriter).mgmt = s.mgmt
      ∧ (s.resumeWriter).mem = s.mem
      ∧ (s.resumeWriter).freeDraws = s.freeDraws := by
  simp [State.resumeWriter]


/-- What `resumeApplier` leaves unchanged. -/
@[simp] theorem State.resumeApplier_frame (s : State) :
    (s.resumeApplier).pending = s.pending
      ∧ (s.resumeApplier).supply = s.supply
      ∧ (s.resumeApplier).pins = s.pins
      ∧ (s.resumeApplier).ctrl = s.ctrl
      ∧ (s.resumeApplier).table = s.table
      ∧ (s.resumeApplier).stage = s.stage
      ∧ (s.resumeApplier).journal = s.journal
      ∧ (s.resumeApplier).writer = s.writer
      ∧ (s.resumeApplier).host = s.host
      ∧ (s.resumeApplier).port = s.port
      ∧ (s.resumeApplier).events = s.events
      ∧ (s.resumeApplier).mgmt = s.mgmt
      ∧ (s.resumeApplier).mem = s.mem
      ∧ (s.resumeApplier).freeDraws = s.freeDraws := by
  simp [State.resumeApplier]


/-- What `resumeEngines` leaves unchanged. -/
@[simp] theorem State.resumeEngines_frame (s : State) :
    (s.resumeEngines).pending = s.pending
      ∧ (s.resumeEngines).supply = s.supply
      ∧ (s.resumeEngines).pins = s.pins
      ∧ (s.resumeEngines).table = s.table
      ∧ (s.resumeEngines).journal = s.journal
      ∧ (s.resumeEngines).host = s.host
      ∧ (s.resumeEngines).port = s.port
      ∧ (s.resumeEngines).events = s.events
      ∧ (s.resumeEngines).mgmt = s.mgmt
      ∧ (s.resumeEngines).mem = s.mem
      ∧ (s.resumeEngines).freeDraws = s.freeDraws
      ∧ (s.resumeEngines).ctrl.straps = s.ctrl.straps
      ∧ (s.resumeEngines).ctrl.format = s.ctrl.format
      ∧ (s.resumeEngines).ctrl.loader = s.ctrl.loader := by
  unfold State.resumeEngines
  dsimp only
  (repeat' split) <;> simp

/-- What `discardHeldOn` leaves unchanged. -/
@[simp] theorem State.discardHeldOn_frame (s : State) (t : Fin 8) :
    (s.discardHeldOn t).pending = s.pending
      ∧ (s.discardHeldOn t).supply = s.supply
      ∧ (s.discardHeldOn t).pins = s.pins
      ∧ (s.discardHeldOn t).ctrl = s.ctrl
      ∧ (s.discardHeldOn t).table = s.table
      ∧ (s.discardHeldOn t).journal = s.journal
      ∧ (s.discardHeldOn t).writer = s.writer
      ∧ (s.discardHeldOn t).applier = s.applier
      ∧ (s.discardHeldOn t).host = s.host
      ∧ (s.discardHeldOn t).port = s.port
      ∧ (s.discardHeldOn t).mgmt = s.mgmt
      ∧ (s.discardHeldOn t).mem = s.mem
      ∧ (s.discardHeldOn t).freeDraws = s.freeDraws := by
  unfold State.discardHeldOn
  dsimp only
  split <;> simp

end Sys2Proof.Machine
end

