-- ==== Sys2Proof/Laws/Arbiter.lean ====
section
/-! SUPPORT. What the arbiter's next grant can do (R38, R39). -/

namespace Sys2Proof.Machine

/-- The accesses the engines and the system ask for are their own. -/
theorem State.writerWants_owner {s : State} {a : Access} (h : s.writerWants = some a) :
    a.owner = .requester .writer := by
  unfold State.writerWants at h
  split at h
  · split at h
    · split at h
      · cases h; rfl
      · cases h
    · obtain ⟨x, _, rfl⟩ := Option.map_eq_some_iff.1 h; rfl
    · cases h
    all_goals
      obtain ⟨m, _, rfl⟩ := Option.map_eq_some_iff.1 h; rfl
  · cases h

theorem State.applierWants_owner {s : State} {a : Access} (h : s.applierWants = some a) :
    a.owner = .requester .applier := by
  unfold State.applierWants at h
  split at h
  · obtain ⟨m, _, rfl⟩ := Option.map_eq_some_iff.1 h; rfl
  · cases h

theorem State.hostWants_cases {s : State} {a : Access} (h : s.hostWants = some a) :
    s.host.phase = .waiting ∧ a.owner = .requester .host ∧ a.addr = s.host.addr.toNat := by
  unfold State.hostWants at h
  split at h
  · cases h; exact ⟨‹_›, rfl, rfl⟩
  · cases h

theorem State.formatWants_owner {s : State} {a : Access} (h : s.formatWants = some a) :
    a.owner = .system := by
  unfold State.formatWants at h
  obtain ⟨k, _, h⟩ := Option.bind_eq_some_iff.1 h
  obtain ⟨m, _, rfl⟩ := Option.map_eq_some_iff.1 h; rfl

theorem State.systemWants_owner {s : State} {a : Access} (h : s.systemWants = some a) :
    a.owner = .system := by
  have loader : s.loaderWants = some a → a.owner = .system := by
    intro h; unfold State.loaderWants at h; split at h <;> cases h; rfl
  unfold State.systemWants at h
  split at h
  · unfold State.recoveryWants at h
    dsimp only at h
    split at h
    · cases h
    · cases h; rfl
    · cases h; rfl
    · obtain ⟨m, _, rfl⟩ := Option.map_eq_some_iff.1 h; rfl
    · obtain ⟨m, _, rfl⟩ := Option.map_eq_some_iff.1 h; rfl
    · obtain ⟨m, _, rfl⟩ := Option.map_eq_some_iff.1 h; rfl
    · exact State.formatWants_owner h
  · exact loader h
  · exact loader h
  · exact State.formatWants_owner h
  all_goals cases h

/-- Every request is its requester's own. -/
theorem State.wants_owner {s : State} {r : Requester} {a : Access} (h : s.wants r = some a) :
    a.owner = .requester r := by
  cases r
  · exact (State.hostWants_cases h).2.1
  · exact State.writerWants_owner h
  · exact State.applierWants_owner h

/-- What a grant among requesters can do: nothing, or begin one request's access in a free port. -/
theorem State.grantAmong_cases (s : State) (rs : List Requester) :
    s.grantAmong rs = s
      ∨ ∃ r a, s.port.inFlight = none ∧ s.wants r = some a ∧ s.grantAmong rs = s.grantTo r a := by
  unfold State.grantAmong
  split
  · rename_i hn
    split
    · rename_i r a hg
      obtain ⟨q, _, hw⟩ := List.exists_of_findSome?_eq_some hg
      obtain ⟨x, hx, he⟩ := Option.map_eq_some_iff.1 hw
      cases he
      exact .inr ⟨_, _, by simpa using hn, hx, rfl⟩
    · exact .inl rfl
  · exact .inl rfl

/-- What the next grant can do: nothing, begin one requester's access, or begin an access of recovery, the loader or the
format, each in a free port. -/
theorem State.grant_cases (s : State) :
    s.grant = s
      ∨ (∃ r a, s.port.inFlight = none ∧ s.wants r = some a ∧ s.grant = s.grantTo r a)
      ∨ ∃ a, s.port.inFlight = none ∧ s.systemWants = some a
          ∧ s.grant = s.setPort { s.port with inFlight := some a } := by
  unfold State.grant
  split
  · rcases State.grantAmong_cases s Requester.all with e | ⟨r, a, hn, hw, e⟩
    · rw [e]
      unfold State.grantSystem
      split
      · rename_i hn
        split
        · exact .inr (.inr ⟨_, by simpa using hn, ‹_›, rfl⟩)
        · exact .inl rfl
      · exact .inl rfl
    · refine .inr (.inl ⟨r, a, hn, hw, ?_⟩)
      rw [e]
      unfold State.grantSystem
      cases r <;> simp [State.grantTo]
  · exact .inl rfl

/-- A second grant finds the port taken or nothing to grant. -/
@[simp] theorem State.grant_grant (s : State) : s.grant.grant = s.grant := by
  have busy : ∀ t : State, t.port.inFlight ≠ none → t.grant = t := by
    intro t h
    rcases State.grant_cases t with e | ⟨_, _, hn, _, _⟩ | ⟨_, hn, _, _⟩
    · exact e
    · exact absurd hn h
    · exact absurd hn h
  rcases State.grant_cases s with e | ⟨r, a, _, _, e⟩ | ⟨a, _, _, e⟩
  · rw [e, e]
  · rw [e]
    exact busy _ (by cases r <;> simp [State.grantTo])
  · rw [e]
    exact busy _ (by simp)

/-- Where no host cycle waits, a grant changes the memory port alone. -/
theorem State.grant_port_only {s : State} (h : s.host.phase ≠ .waiting) :
    ∃ p, s.grant = s.setPort p ∧ ∀ a, p.inFlight = some a → a.owner = .requester .host →
      s.port.inFlight = some a := by
  rcases State.grant_cases s with e | ⟨r, a, _, hw, e⟩ | ⟨a, _, hw, e⟩
  · exact ⟨s.port, e.trans rfl, fun _ h _ => h⟩
  · cases r
    · exact absurd (State.hostWants_cases hw).1 h
    all_goals
      refine ⟨_, e, fun b hb ho => ?_⟩
      cases hb
      rw [State.wants_owner hw] at ho
      cases ho
  · refine ⟨_, e, fun b hb ho => ?_⟩
    cases hb
    rw [State.systemWants_owner hw] at ho
    cases ho

/-- The choice that waits for an engine's take that is next, or the grant. -/
theorem State.grantBy_cases (s : State) (o : Order) :
    (s.grantBy o = s ∧ takeGoesFirst o = true ∧ s.takeNext = true) ∨ s.grantBy o = s.grant := by
  unfold State.grantBy
  split
  · rename_i h
    exact .inl ⟨rfl, by simpa using h⟩
  · exact .inr rfl

/-- An order that lets no take come first grants at once. -/
theorem State.grantBy_of_order {o : Order} (s : State) (h : takeGoesFirst o = false) : s.grantBy o = s.grant := by
  simp [State.grantBy, h]

/-- A grant keeps the hold of the host's cycle. -/
@[simp] theorem State.grant_hold (s : State) : s.grant.host.hold = s.host.hold := by
  rcases State.grant_cases s with e | ⟨r, a, _, _, e⟩ | ⟨a, _, _, e⟩
  · rw [e]
  · rw [e]
    cases r <;> simp [State.grantTo]
  · simp [e]

/-- With nothing in the slot hold that a FREE slot ends, the arbiter's choice is all that follows a take. -/
theorem State.chooseThenHeld_of_hold {s : State} (h : s.host.hold ≠ some .slot ∨ s.stage.lowestFree = none) :
    s.chooseThenHeld = s.grant := by
  have e : s.grant.endSlotHold = s.grant := by
    rcases h with h | h
    · exact State.endSlotHold_of_hold (by simpa using h)
    · simp [State.endSlotHold, h]
  unfold State.chooseThenHeld
  dsimp only
  rw [e, ite_self, State.grant_grant]

/-- With nothing in the slot hold that a FREE slot ends, a completed access is followed by the arbiter's choice alone. -/
theorem State.afterAccess_of_hold {s : State} (o : Order)
    (h : s.host.hold ≠ some .slot ∨ s.stage.lowestFree = none) : s.afterAccess o = s.grantBy o := by
  have e : s.endSlotHold = s := by
    rcases h with h | h
    · exact State.endSlotHold_of_hold h
    · simp [State.endSlotHold, h]
  unfold State.afterAccess
  cases o <;> simp [e, State.chooseThenHeld_of_hold h, State.grantBy, takeGoesFirst]

end Sys2Proof.Machine
end

