-- ==== Sys2Proof/Laws/Events.lean ====
section
/-! SUPPORT. The event block: an arrival does not look at ALERT#, so earlier evaluations of ALERT# drop out. -/

namespace Sys2Proof.Machine

/-- An evaluation of ALERT# changes neither the queue nor the serial counter. -/
@[simp] theorem EventBlock.evaluate_frame (e : EventBlock) (m : Word16) :
    (e.evaluate m).queue = e.queue ∧ (e.evaluate m).serial = e.serial
      ∧ (e.evaluate m).hasOverflow = e.hasOverflow :=
  ⟨rfl, rfl, rfl⟩

/-- The level of ALERT# after an evaluation. -/
@[simp] theorem EventBlock.evaluate_alert (e : EventBlock) (m : Word16) :
    (e.evaluate m).alert = alertLevel m e.queue := rfl

/-- The last of two evaluations counts. -/
@[simp] theorem EventBlock.evaluate_evaluate (e : EventBlock) (m m' : Word16) :
    (e.evaluate m).evaluate m' = e.evaluate m' := rfl

/-- An evaluation before an arrival drops out when ALERT# is evaluated after it. -/
@[simp] theorem EventBlock.arrive_evaluate_evaluate (e : EventBlock) (r : EventReport) (m m' : Word16) :
    ((e.evaluate m).arrive r).evaluate m' = (e.arrive r).evaluate m' := by
  unfold EventBlock.arrive
  simp only [EventBlock.evaluate_frame]
  split
  · rfl
  · split
    · split <;> rfl
    · rfl

/-- An event that is logged is the only change. -/
theorem State.logEvent_eq (s : State) (r : EventReport) :
    s.logEvent r = s.setEvents ((s.events.arrive r).evaluate s.table.mask) := rfl

/-- What the event block holds after an event. -/
@[simp] theorem State.logEvent_events (s : State) (r : EventReport) :
    (s.logEvent r).events = (s.events.arrive r).evaluate s.table.mask := rfl

end Sys2Proof.Machine
end

