-- ==== Sys2Proof/Laws/Memory.lean ====
section
/-! SUPPORT. The laws of memory: read after write, other addresses, and the canonical form. -/

namespace Sys2Proof.Machine

/-- A write leaves what every other address reads. -/
theorem Memory.read_write_other (m : Memory) {a k : Nat} (v : Byte) (h : a ≠ k) :
    Memory.read (Memory.write m k v) a = Memory.read m a := by
  induction m with
  | nil => unfold Memory.write; split <;> simp [Memory.read, h.symm]
  | cons c m ih =>
    obtain ⟨x, b⟩ := c
    unfold Memory.write
    repeat' split
    all_goals simp_all [Memory.read, Ne.symm h]
    all_goals first
      | (intro e; omega)
      | simp [Ne.symm h]

/-- Addresses above every listed one read the unlisted byte. -/
theorem Memory.read_unlisted (m : Memory) (a : Nat) (h : ∀ c ∈ m, c.1 ≠ a) :
    Memory.read m a = Memory.unlisted := by
  induction m with
  | nil => rfl
  | cons c m ih =>
    obtain ⟨x, b⟩ := c
    simp only [Memory.read]
    rw [if_neg (h (x, b) (by simp))]
    exact ih fun c hc => h c (by simp [hc])

/-- What the canonical form of a nonempty memory says. -/
theorem Memory.wf_cons (a : Nat) (b : Byte) (m : Memory) :
    Memory.wf ((a, b) :: m) = true ↔ b ≠ Memory.unlisted ∧ (∀ c ∈ m, a < c.1) ∧ Memory.wf m = true := by
  simp only [Memory.wf, Bool.and_eq_true, bne_iff_ne, List.all_eq_true, decide_eq_true_eq, and_assoc]

/-- A write lists no address but those listed before and its own. -/
theorem Memory.mem_write {m : Memory} {k : Nat} {v : Byte} {c : Host.Cell} (h : c ∈ Memory.write m k v) :
    c ∈ m ∨ c.1 = k := by
  induction m with
  | nil => unfold Memory.write at h; split at h <;> simp_all
  | cons x m ih =>
    obtain ⟨a, b⟩ := x
    unfold Memory.write at h
    repeat' split at h
    all_goals simp only [List.mem_cons] at h ⊢
    all_goals first
      | (rcases h with rfl | h | h <;> simp_all; done)
      | (rcases h with rfl | h <;> simp_all; done)
      | (rcases h with rfl | h
         · simp
         · rcases ih h with h | h <;> simp_all)
      | simp_all

/-- A write keeps the canonical form. -/
theorem Memory.write_wf {m : Memory} (h : Memory.wf m = true) (k : Nat) (v : Byte) :
    Memory.wf (Memory.write m k v) = true := by
  induction m with
  | nil =>
    unfold Memory.write
    split
    · rfl
    · rw [Memory.wf_cons]; simp_all [Memory.wf]
  | cons x m ih =>
    obtain ⟨a, b⟩ := x
    have h' := (Memory.wf_cons a b m).1 h
    unfold Memory.write
    repeat' split
    · exact h
    · rw [Memory.wf_cons]
      refine ⟨‹_›, ?_, h⟩
      intro c hc
      rcases List.mem_cons.1 hc with rfl | hc
      · assumption
      · exact Nat.lt_trans ‹_› (h'.2.1 c hc)
    · exact h'.2.2
    · rw [Memory.wf_cons]
      refine ⟨‹_›, ?_, h'.2.2⟩
      rename_i e _; subst e; exact h'.2.1
    · rw [Memory.wf_cons]
      refine ⟨h'.1, ?_, ih h'.2.2⟩
      intro c hc
      rcases Memory.mem_write hc with hc | hc
      · exact h'.2.1 c hc
      · omega

/-- A read after a write to the same address gives the byte written. -/
theorem Memory.read_write_same {m : Memory} (h : Memory.wf m = true) (k : Nat) (v : Byte) :
    Memory.read (Memory.write m k v) k = v := by
  induction m with
  | nil => unfold Memory.write; split <;> simp_all [Memory.read]
  | cons x m ih =>
    obtain ⟨a, b⟩ := x
    have h' := (Memory.wf_cons a b m).1 h
    have above : k ≤ a → ∀ c ∈ m, c.1 ≠ k := fun hk c hc => by have := h'.2.1 c hc; omega
    unfold Memory.write
    repeat' split
    · rename_i hk hv
      rw [hv, Memory.read_unlisted]
      intro c hc
      rcases List.mem_cons.1 hc with rfl | hc
      · simp; omega
      · exact above (Nat.le_of_lt hk) c hc
    · simp [Memory.read]
    · rename_i hk hv
      rw [hv, Memory.read_unlisted _ _ (above (by omega))]
    · simp [Memory.read]
    · rename_i hk
      simp only [Memory.read]
      rw [if_neg (fun e => hk e.symm)]
      exact ih h'.2.2

/-- Canonical memories that read alike are equal. -/
theorem Memory.ext_read {m n : Memory} (hm : Memory.wf m = true) (hn : Memory.wf n = true)
    (h : ∀ a, Memory.read m a = Memory.read n a) : m = n := by
  induction m generalizing n with
  | nil =>
    cases n with
    | nil => rfl
    | cons y n =>
      obtain ⟨c, d⟩ := y
      have := h c
      simp only [Memory.read, if_true] at this
      exact absurd this.symm ((Memory.wf_cons c d n).1 hn).1
  | cons x m ih =>
    obtain ⟨a, b⟩ := x
    have hm' := (Memory.wf_cons a b m).1 hm
    cases n with
    | nil =>
      have := h a
      simp only [Memory.read, if_true] at this
      exact absurd this hm'.1
    | cons y n =>
      obtain ⟨c, d⟩ := y
      have hn' := (Memory.wf_cons c d n).1 hn
      have low : ∀ {k e : Nat} {f : Byte} {l : Memory}, (∀ z ∈ l, e < z.1) → k < e →
          Memory.read ((e, f) :: l) k = Memory.unlisted := by
        intro k e f l hl hk
        apply Memory.read_unlisted
        intro z hz
        rcases List.mem_cons.1 hz with rfl | hz
        · simp; omega
        · have := hl z hz; omega
      have hac : a = c := by
        rcases Nat.lt_trichotomy a c with q | q | q
        · have e := h a
          rw [low hn'.2.1 q] at e
          simp only [Memory.read, if_true] at e
          exact absurd e hm'.1
        · exact q
        · have e := h c
          rw [low hm'.2.1 q] at e
          simp only [Memory.read, if_true] at e
          exact absurd e.symm hn'.1
      subst hac
      have hbd : b = d := by simpa [Memory.read] using h a
      subst hbd
      congr 1
      refine ih hm'.2.2 hn'.2.2 fun k => ?_
      by_cases hk : a = k
      · subst hk
        rw [Memory.read_unlisted m a fun z hz => by have := hm'.2.1 z hz; omega,
          Memory.read_unlisted n a fun z hz => by have := hn'.2.1 z hz; omega]
      · have := h k
        simpa [Memory.read, hk] using this

/-- The memory at reset has the canonical form. -/
theorem State.reset_mem_wf : Memory.wf State.reset.mem = true := rfl

/-- Everything an access that completes can do: the port is free, a write leaves a byte at its address, and nothing else
changes. -/
theorem State.completeAccess_cases {s t : State} {a : Access} {ans : MemAnswer} {b : Byte}
    (h : s.completeAccess a ans = some (t, b)) :
    a.addr < memorySize s.ctrl.straps
      ∧ ((a.op = .read ∧ t = s.setPort { s.port with inFlight := none })
        ∨ ∃ v c, a.op = .write v
            ∧ t = (s.setPort { s.port with inFlight := none }).setMem (s.mem.write a.addr c)) := by
  unfold State.completeAccess at h
  split at h
  · refine ⟨‹_›, ?_⟩
    dsimp only at h
    split at h
    all_goals simp only [Option.some.injEq, Prod.mk.injEq] at h
    all_goals obtain ⟨rfl, rfl⟩ := h
    · exact .inl ⟨‹_›, rfl⟩
    · exact .inl ⟨‹_›, rfl⟩
    · exact .inr ⟨_, _, ‹_›, rfl⟩
    · exact .inr ⟨_, _, ‹_›, rfl⟩
  · cases h

end Sys2Proof.Machine
end

