-- ==== Sys2Proof/Laws/Slots.lean ====
section
/-! SUPPORT. The slots: what storing a byte, setting states and freeing do to each slot, and which slot a search finds. -/

namespace Sys2Proof.Machine

/-! ## Indices -/

/-- Every index is listed. -/
@[simp] theorem mem_indices8 (i : Fin 8) : i ∈ indices8 := by
  decide +revert

/-- The search in index order finds the lowest index that fits. -/
theorem find_indices8_lowest {p : Fin 8 → Bool} {i : Fin 8} (hp : p i = true)
    (hl : ∀ k, k < i → p k = false) : indices8.find? p = some i := by
  simp only [indices8, List.find?]
  have h0 := hl 0
  have h1 := hl 1
  have h2 := hl 2
  have h3 := hl 3
  have h4 := hl 4
  have h5 := hl 5
  have h6 := hl 6
  have h7 := hl 7
  rcases i with ⟨i, hi⟩
  interval_cases i <;> simp_all

/-- A parameter byte up to 7 is its index. -/
theorem index8_of_eq {b : Byte} {i : Fin 8} (h : b.toNat = i.val) : index8 b = some i := by
  unfold index8
  rw [dif_pos (by omega)]
  congr

/-- A parameter byte above 7 is no index. -/
theorem index8_of_le {b : Byte} (h : 8 ≤ b.toNat) : index8 b = none := by
  unfold index8
  rw [dif_neg (by omega)]

/-! ## One slot -/

/-- A slot that is replaced. -/
@[simp] theorem Staging.setSlot_same (g : Staging) (i : Fin 8) (x : Slot) : (g.setSlot i x).slots[i] = x := by
  simp [Staging.setSlot]

/-- Every other slot. -/
theorem Staging.setSlot_other (g : Staging) {i k : Fin 8} (x : Slot) (h : k ≠ i) :
    (g.setSlot i x).slots[k] = g.slots[k] := by
  simp only [Staging.setSlot, Fin.getElem_fin, Vector.getElem_set]
  rw [if_neg fun q => h (Fin.ext q.symm)]

/-- What replacing a slot leaves unchanged. -/
@[simp] theorem Staging.setSlot_frame (g : Staging) (i : Fin 8) (x : Slot) :
    (g.setSlot i x).queue = g.queue ∧ (g.setSlot i x).held = g.held ∧ (g.setSlot i x).chain = g.chain
      ∧ (g.setSlot i x).openCounter = g.openCounter :=
  ⟨rfl, rfl, rfl, rfl⟩

/-- Storing a byte at an offset of the slot does that and nothing else. -/
theorem Slot.store_holdsAlso (x : Slot) {o : Nat} (b : Byte) (h : o < 128) : x.holdsAlso (x.store o b) o b := by
  refine ⟨?_, rfl, ?_, rfl, rfl, rfl, rfl, rfl, rfl, rfl⟩
  · simp [Slot.byte, Slot.store, h]
  · intro k hk
    simp [Slot.byte, Slot.store, Ne.symm hk]

/-! ## Several slots -/

/-- Setting the state of several slots does that and nothing else. -/
theorem Staging.setStates_cases (g : Staging) (is : List (Fin 8)) (st : SlotState) :
    (∀ k ∈ is, (g.setStates is st).slots[k] = { g.slots[k] with state := st })
      ∧ (∀ k, k ∉ is → (g.setStates is st).slots[k] = g.slots[k])
      ∧ (g.setStates is st).queue = g.queue ∧ (g.setStates is st).held = g.held
      ∧ (g.setStates is st).chain = g.chain ∧ (g.setStates is st).openCounter = g.openCounter := by
  unfold Staging.setStates
  induction is generalizing g with
  | nil => simp
  | cons j is ih =>
    obtain ⟨a, b, c, d, e, o⟩ := ih (g.setSlot j { g.slots[j] with state := st })
    refine ⟨?_, ?_, c, d, e, o⟩
    · intro k hk
      rw [List.foldl_cons]
      by_cases hm : k ∈ is
      · rw [a k hm]
        by_cases hj : k = j
        · subst hj
          rw [Staging.setSlot_same]
        · rw [Staging.setSlot_other _ _ hj]
      · obtain rfl : k = j := by simpa [hm] using hk
        rw [b k hm, Staging.setSlot_same]
    · intro k hk
      simp only [List.mem_cons, not_or] at hk
      rw [List.foldl_cons, b k hk.2, Staging.setSlot_other _ _ hk.1]

/-- Freeing several slots clears them, takes them out of the chain, and does nothing else. -/
theorem Staging.freeSlots_cases (g : Staging) (is : List (Fin 8)) :
    (∀ k ∈ is, (g.freeSlots is).slots[k] = Slot.cleared g.slots[k].image)
      ∧ (∀ k, k ∉ is → (g.freeSlots is).slots[k] = g.slots[k])
      ∧ (g.freeSlots is).queue = g.queue ∧ (g.freeSlots is).held = g.held
      ∧ (g.freeSlots is).chain = g.chain.filter (fun k => decide (k ∉ is))
      ∧ (g.freeSlots is).openCounter = g.openCounter := by
  unfold Staging.freeSlots
  induction is generalizing g with
  | nil => simp
  | cons j is ih =>
    obtain ⟨a, b, c, d, e, o⟩ := ih (g.freeSlot j)
    have hs : (g.freeSlot j).slots[j] = Slot.cleared g.slots[j].image := Staging.setSlot_same g j _
    have ho : ∀ k, k ≠ j → (g.freeSlot j).slots[k] = g.slots[k] := fun k hk => Staging.setSlot_other g _ hk
    refine ⟨?_, ?_, c, d, ?_, o⟩
    · intro k hk
      rw [List.foldl_cons]
      by_cases hm : k ∈ is
      · rw [a k hm]
        by_cases hj : k = j
        · subst hj
          rw [hs]
          rfl
        · rw [ho k hj]
      · obtain rfl : k = j := by simpa [hm] using hk
        rw [b k hm, hs]
    · intro k hk
      simp only [List.mem_cons, not_or] at hk
      rw [List.foldl_cons, b k hk.2, ho k hk.1]
    · rw [List.foldl_cons, e]
      simp only [Staging.freeSlot, List.filter_filter]
      congr 1
      funext k
      simp [Bool.and_comm, bne, beq_eq_decide]

/-! ## Searches -/

/-- The lowest FREE slot. -/
theorem Staging.lowestFree_eq {g : Staging} {i : Fin 8} (h : g.slots[i].state = .free)
    (hl : ∀ k : Fin 8, k < i → g.slots[k].state ≠ .free) : g.lowestFree = some i :=
  find_indices8_lowest (by simpa using h) fun k hk => by simpa using hl k hk

/-- A lookup that carries a record reference found a RECORD entry, which gives the reference. -/
theorem State.lookup_ref_cases {s : State} {a : Nat} {r : RecordRef} (h : (s.lookup a).ref = some r) :
    (s.lookup a).cls = .record ∧ ∃ i : Fin 8, s.table.entries[i].covers a = true
      ∧ s.table.entries[i].cls = .record ∧ r = RegionTable.recordRef s.table.entries i a
      ∧ (s.lookup a).region = some i := by
  unfold State.lookup at h ⊢
  split at h
  · cases h
  rename_i h1
  split at h
  · cases h
  rename_i h2
  simp only [h1, h2, if_false]
  split at h
  · rename_i i hf
    by_cases hc : s.table.entries[i].cls = .record
    · simp only [hc, if_true, Option.some.injEq] at h
      refine ⟨?_, i, by simpa using List.find?_some hf, hc, h.symm, rfl⟩
      rw [hc]
      rfl
    · simp only [hc, if_false] at h
      cases h
  · cases h

end Sys2Proof.Machine
end

