-- ==== Sys2Proof/Tests/Slice0.lean ====
section
/-! SUPPORT. Small tests: the ill-formed command, the codes and check values of chapter 12, single steps with the results
that the spec's worked examples give, and for every statement with hypotheses a state that meets them. -/

namespace Sys2Proof.Tests

-- One test after the other: each decide waits for the kernel, and a hundred waiting at once need a hundred threads.
set_option Elab.async false

open Sys2Proof.Machine

/-! ## States built for the tests -/

/-- The configuration of the worked examples: M = 128 KiB, J = 2 KiB (00). -/
def straps : Straps := { msz := 1, jsz := 0, afmt := false, defro := false }

/-- The part in an operating state, everything else as start-up leaves it. -/
def part (o : OpState) : State :=
  State.reset.setCtrl { Controller.starting straps with opState := o, hrsto := o.holdsHost }

/-- A RECORD entry. -/
def recordEntry (base limit : Addr) (rsize commit : Nat) (follows : Option (Fin 8)) : RegionEntry :=
  { valid := true, cls := .record, base := base, limit := limit, rsize := rsize, commit := commit, follows := follows }

/-- The table of the worked example 1.8 with entry 4 of 4.10. -/
def exTable : RegionTable where
  entries := #v[recordEntry 0x100 0x1FF 16 15 none,
    { RegionEntry.invalid with valid := true, cls := .readonly, base := 0xF000, limit := 0xFFFF },
    recordEntry 0x400 0x47F 32 31 none, recordEntry 0x500 0x53F 8 7 (some 2),
    recordEntry 0x600 0x60F 8 7 (some 2), RegionEntry.invalid, RegionEntry.invalid, RegionEntry.invalid]
  defaultClass := .openClass
  mask := 0xFFFF

/-- RUNNING with the worked table, nothing staged. -/
def running : State := (part .running).setTable exTable

/-- The state with a transaction that awaits its command. -/
def asked (s : State) : State := s.setMgmt (MgmtPort.quiet .command)

/-- The state after a command, or the state itself where the command stops. -/
def after (c : Instr) (s : State) : State :=
  match exec c s with
  | .next t => t
  | .fault _ | .refused _ => s

/-- The state after a host write. -/
def wrote (a : Addr) (d : Byte) (s : State) : State := after (.hostCycle true false true a d) s

/-- The state after a host read. -/
def didRead (a : Addr) (s : State) : State := after (.hostCycle true true false a 0) s

/-- A slot of a record with these bytes at these offsets. -/
def staged (st : SlotState) (region : Fin 8) (home : Addr) (length : Nat) (open_ : Word16)
    (bytes : List (Nat × Byte)) : Slot :=
  bytes.foldl (fun x p => x.store p.1 p.2)
    { Slot.cleared (Vector.replicate 128 0) with
      state := st, region := .entry region, home := some home, length := length, openNumber := open_ }

/-- A FREE slot. -/
def free : Slot := Slot.cleared (Vector.replicate 128 0)

/-- The held versions of the worked example 4.10 after step 3. -/
def heldSlots : Vector Slot 8 :=
  #v[{ staged .held 3 0x538 8 0 [(0, 0xA0), (1, 0xA1), (2, 0xA2), (7, 0x01)] with waitsOn := some 2 },
    { staged .held 4 0x600 8 1 [(0, 0xB0), (7, 0x01)] with waitsOn := some 2 },
    { staged .held 3 0x538 8 2 [(1, 0xC1), (7, 0x02)] with waitsOn := some 2 },
    free, free, free, free, free]

/-- The worked example 4.10 after step 3: slots 0, 1 and 2 HELD on region 2. -/
def heldThree : State :=
  running.setStage
    { slots := heldSlots, openCounter := 3, queue := [], chain := [0, 1, 2],
      held := (Vector.replicate 8 []).set 2 [0, 1, 2] }

/-- All eight slots in a state, for the records 8 to 15 of region 0. -/
def fullStore (st : SlotState) : State :=
  running.setStage
    { slots := Vector.ofFn fun i : Fin 8 => staged st 0 (BitVec.ofNat 19 (0x180 + 16 * i.val)) 16 0 [(0, 0x55)],
      openCounter := 8, queue := [], chain := indices8, held := Vector.replicate 8 [] }

/-- An access in flight. -/
def flying (owner : AccessOwner) (addr : Nat) (op : AccessOp) (s : State) : State :=
  s.setPort { s.port with inFlight := some { owner := owner, addr := addr, op := op } }

/-! ## Well-formedness and decoding -/

/-- The one check of `Instr.wf` refuses a BAD_COMMAND whose code is that of STATUS. -/
theorem test_wf_refuses_known_code : (Instr.badCommand 0x01).wf = false := by decide +kernel

/-- A code outside 12.8 is well formed. -/
theorem test_wf_unknown_code : (Instr.badCommand 0x05).wf = true := by decide +kernel

/-- exec refuses the ill-formed command by name. -/
theorem test_ill_formed_refused : exec (.badCommand 0x41) running = .refused .illFormed := rfl

/-- 12.8: the code table. -/
theorem test_command_codes :
    [(0x01 : Byte), 0x02, 0x03, 0x04, 0x10, 0x11, 0x12, 0x13, 0x14, 0x20, 0x30, 0x31, 0x32, 0x40, 0x41].map
      commandOfByte = MgmtCommand.all.map some := by decide +kernel

/-- No row of the opcode table gives bits. -/
theorem test_no_table_word : decodeTableWord 8 1 = none := rfl

/-! ## Check values and lengths -/

/-- R209: the check value of the single byte 00h. -/
theorem test_crc_zero : crc [0x00] = 0xE1F0 := by decide +kernel

/-- R209: the check value of the nine characters "123456789". -/
theorem test_crc_digits : crc [0x31, 0x32, 0x33, 0x34, 0x35, 0x36, 0x37, 0x38, 0x39] = 0x29B1 := by decide +kernel

/-- 5.2, 5.8: the entry lengths of the worked examples. -/
theorem test_entry_lengths :
    [[8, 8, 8, 32], [128, 128, 128, 92], [72]].map entryLength = [80, 500, 84] := by decide +kernel

/-- 5.8, R97: the forward distance from 1608 to 500 in 2048 bytes. -/
theorem test_forward_distance : forwardDistance 2048 1608 500 = 940 := by decide +kernel

/-! ## Host cycles -/

/-- 1.8: the class, region, offset and home of each looked-up address. -/
theorem test_lookups :
    [0x105, 0x10F, 0x1F0, 0x45F, 0x53A].map (fun a => (running.lookup a).ref.map fun r =>
        (r.region.val, r.offset, r.home.toNat, r.isCommit))
      = [some (0, 5, 0x100, false), some (0, 15, 0x100, true), some (0, 0, 0x1F0, false),
        some (2, 31, 0x440, true), some (3, 2, 0x538, false)] := by decide +kernel

/-- 1.8: the lookups that end in another class. -/
theorem test_lookup_classes :
    [0x300, 0xF123, 0x1F780, 0x1FFFF, 0x20000].map (fun a => ((running.lookup a).cls, (running.lookup a).region))
      = [(.openClass, none), (.readonly, some 1), (.hidden, none), (.hidden, none), (.beyond, none)] := by
  decide +kernel

/-- 4.10: reads walk the chain from the newest version: 00539h from slot 2, 00538h from slot 0. -/
theorem test_read_newest_version :
    ((didRead 0x539 heldThree).host.hd, (didRead 0x538 heldThree).host.hd) = (some 0xC1, some 0xA0) := by
  decide +kernel

/-- 4.10: a read of 0053Bh finds no staged byte and goes to home. -/
theorem test_read_goes_home :
    (didRead 0x53B heldThree).port.inFlight = some { owner := .requester .host, addr := 0x53B, op := .read } := by
  decide +kernel

/-- 4.10 step 4: the list is full: slot 3 stays FILLING, GROUP_LIMIT carries detail 4, region 2, address 0060Fh and
count 3. -/
theorem test_group_limit :
    ((wrote 0x60F 0x01 heldThree).slot 3).state = .filling
      ∧ (wrote 0x60F 0x01 heldThree).events.queue.map (·.report)
        = [{ kind := .groupLimit, detail := 4, region := some 2, address := some 0x60F, count := 3 }] := by
  decide +kernel

/-- 4.10 step 5: the trigger's commit byte queues slots 0, 1, 2 and its own. -/
theorem test_trigger_group :
    (wrote 0x43F 0x01 heldThree).stage.queue = [{ tag := 3, slots := [0, 1, 2, 3] }]
      ∧ (wrote 0x43F 0x01 heldThree).stage.held[(2 : Fin 8)] = [] := by decide +kernel

/-- 11.3 step 7: STAGE_FULL with region 2, address 00440h and count 8. -/
theorem test_stage_full :
    (wrote 0x440 0x01 (fullStore .filling)).events.queue.map (·.report)
      = [{ kind := .stageFull, detail := 0, region := some 2, address := some 0x440, count := 8 }] := by decide +kernel

/-- R27: a hidden read is answered FFh and logged with detail 00h. -/
theorem test_hidden_read :
    (didRead 0x1F780 running).host.hd = some 0xFF
      ∧ (didRead 0x1F780 running).events.queue.map (·.report.detail) = [0x00] := by decide +kernel

/-- R21: the end of an answered read releases HD. -/
theorem test_cycle_end_releases_hd :
    (after .hostCycleEnd (didRead 0x1F780 running)).host.hd = none := by decide +kernel

/-- 4.10: a host reset discards slots 0, 1 and 2: SLOTS_DISCARDED with detail 0 and count 3 (R79). -/
theorem test_host_reset_discards :
    (after .hostReset heldThree).events.queue.map (fun r => (r.report.detail, r.report.count)) = [(0, 3)]
      ∧ (after .hostReset heldThree).stage.allFree = true := by decide +kernel

/-- R24: while SRST# is asserted no cycle is taken. -/
theorem test_no_cycle_in_host_reset :
    (didRead 0x100 (after .hostReset running)).host.phase = .idle := by decide +kernel

/-! ## Memory, the engines and the arbiter -/

/-- 2.8 step 4: 00300h holds the byte after the OPEN write. -/
theorem test_open_write_reaches_memory :
    (after (.memoryAccessComplete .ok .heldFirst) (wrote 0x300 0x99 running)).mem = [(0x300, 0x99)]
      ∧ (after (.memoryAccessComplete .ok .heldFirst) (wrote 0x300 0x99 running)).host.phase = .answered := by
  decide +kernel

/-- R36: the byte an unlisted address reads as is not stored. -/
theorem test_memory_stays_canonical : Memory.write [(0x300, 0x99)] 0x300 Memory.unlisted = [] := by decide +kernel

/-- 4.10: the group of step 5 has L = 80, and the Writer is in MERGE because bytes come from home. -/
theorem test_writer_takes_group :
    (after .writerTakeGroup (wrote 0x43F 0x01 heldThree)).writer.length = 80
      ∧ (after .writerTakeGroup (wrote 0x43F 0x01 heldThree)).writer.phase = .merge := by decide +kernel

/-- A Writer in PLACE with an entry of this length, over this journal description. -/
def placing (head tail held length : Nat) : State :=
  (running.setJournal { Journal.cleared with head := head, tail := tail, held := held, inUse := some .b }).setWriter
    { Writer.idle with phase := .place, group := some { tag := 0, slots := [0] }, length := length }

/-- 5.8 step 5: 1608 + 500 > 2048: PAD at 1608, the entry at 0, tail 500 and held count 2012. -/
theorem test_place_wraps :
    (after .writerPlace (placing 536 1608 1072 500)).journal.tail = 500
      ∧ (after .writerPlace (placing 536 1608 1072 500)).journal.held = 2012
      ∧ (after .writerPlace (placing 536 1608 1072 500)).writer.padAt = some 1608 := by decide +kernel

/-- 5.8 step 6: [500, 584) meets the head at 536: the Writer waits. -/
theorem test_place_waits :
    (after .writerPlace (placing 536 500 2012 84)).writer.phase = .place := by decide +kernel

/-- An Applier at the last step of an anchor write for an entry at `pos`. -/
def anchoring (head held pos length : Nat) : State :=
  flying (.requester .applier) 0x1F780 .read
    (((running.setJournal
      { Journal.cleared with
        head := head, held := held, inUse := some .b, generation := 2,
        live := [{ pos := pos, length := length, seq := 1, group := { tag := 0, slots := [0] } }] }).setApplier
      { Applier.idle with phase := .anchor, idx := 32 }).setMem [(0x1F780, 0x4C)])

/-- 5.8 step 7: the anchor write for E1 moves the head to 1072, leaves 1476 bytes held and puts A in use with
generation 3. -/
theorem test_anchor_write_moves_head :
    let t := after (.memoryAccessComplete .ok .heldFirst) (anchoring 536 2012 536 536)
    (t.journal.head, t.journal.held, t.journal.inUse, t.journal.generation) = (1072, 1476, some .a, 3) := by
  decide +kernel

/-- R97, R96: a residue of 1608 bytes and an entry of 440 fill J = 2048: the anchor write leaves the held count 0, and the
next entry is placed at 0. -/
theorem test_anchor_write_frees_full_journal :
    let t := after (.memoryAccessComplete .ok .heldFirst) (anchoring 0 2048 1608 440)
    let u := after .writerPlace
      ((t.setJournal { t.journal with tail := 2048 }).setWriter (placing 0 0 0 84).writer)
    (t.journal.head, t.journal.held, u.writer.phase, u.writer.pos, u.journal.held) = (2048, 0, .write, 0, 84) := by
  decide +kernel

/-- R118: the Applier takes the head entry. -/
theorem test_applier_takes_entry :
    (after .applierTakeEntry ((anchoring 536 2012 536 536).setApplier Applier.idle)).applier.phase = .home := by
  decide +kernel

/-- 11.3 step 2: a full store with slot 0 APPLYING and slots 1 to 3 HELD on region 2; a write to record 5 of region 0 is
held. -/
def heldWrite : State :=
  let s := anchoring 536 2012 536 536
  let held (i : Fin 8) (st : SlotState) (on : Option (Fin 8)) : Slot :=
    { (fullStore .filling).slot i with state := st, waitsOn := on }
  let slots := Vector.ofFn fun i : Fin 8 =>
    if i = 0 then held i .applying none
    else if i ≤ 3 then held i .held (some 2)
    else held i .filling none
  wrote 0x152 0x04
    (s.setStage { (fullStore .filling).stage with slots := slots, held := (Vector.replicate 8 []).set 2 [1, 2, 3] })

/-- The same with slot 4 in a second live entry, which the Applier can take. -/
def heldTwo : State :=
  heldWrite.setJournal
    { heldWrite.journal with
      live := heldWrite.journal.live ++ [{ pos := 1072, length := 28, seq := 2, group := { tag := 4, slots := [4] } }] }

/-- The anchor write of the first entry is done, and the held write is left to the APPLIER_TAKE_ENTRY that is next. -/
def leftToTake : State :=
  after (.memoryAccessComplete .ok .takeFirst) (heldTwo.setPending [.applierTakeEntry])

/-! ## The management port -/

/-- 10.7: the PUT REGION that writes entry 4 as RECORD, 00600h to 0060Fh, RSIZE 8, COMMIT 7, FOLLOWS 2. -/
def entry4 : EntryBytes where
  b0 := 0xA0
  b1 := 0x06
  b2 := 0x00
  b3 := 0x20
  b4 := 0x06
  b5 := 0x0F
  b6 := 0x08
  b7 := 0x07

/-- The table of 1.8, without entry 4. -/
def without4 : State :=
  running.setTable { exTable with entries := exTable.entries.set 4 RegionEntry.invalid }

/-- 10.7: PUT REGION 4 answers OK and the table is that of 4.10. -/
theorem test_put_region :
    (after (.putRegion (some 0x04) (.whole entry4)) (asked without4)).mgmt.status = 0x00
      ∧ (after (.putRegion (some 0x04) (.whole entry4)) (asked without4)).table = exTable := by decide +kernel

/-- 10.7: GET REGION 4 of the invalid entry returns all zero but FOLLOWS none. -/
theorem test_get_region_invalid :
    (after (.getRegion (some 0x04)) (asked without4)).mgmt.response = [0, 0, 0, 0xF0, 0, 0, 0, 0] := by decide +kernel

/-- 10.7: the STATUS response with three HELD slots, one FILLING and one GROUP_LIMIT record. -/
theorem test_status_bytes :
    (after .status (asked (wrote 0x60F 0x01 heldThree))).mgmt.response
      = [0x03, 0x00, 4, 1, 3, 0, 0, 0, 0, 0, 0x08, 0x00, 1, 0x02] := by decide +kernel

/-- 10.7: PEEK returns the GROUP_LIMIT record: detail 4, region 2, address 0060Fh, count 3. -/
theorem test_peek_record :
    (after .peek (asked (wrote 0x60F 0x01 heldThree))).mgmt.response
      = [0x07, 0x04, 0x02, 0x00, 0x06, 0x0F, 0x03, 0x00] := by decide +kernel

/-- R180: TAKE leaves the record until its eighth response byte. -/
theorem test_take_waits :
    (after .take (asked (wrote 0x60F 0x01 heldThree))).events.queue.length = 1
      ∧ (after .takeRemove (after .take (asked (wrote 0x60F 0x01 heldThree)))).events.queue = [] := by decide +kernel

/-- 10.7: an unknown code is answered BAD_COMMAND. -/
theorem test_bad_command : (after (.badCommand 0xEE) (asked running)).mgmt.status = 0x21 := by decide +kernel

/-- 10.7: DISCARD HELD 2 returns 3. -/
theorem test_discard_held :
    (after (.discardHeld (some 0x02)) (asked heldThree)).mgmt.response = [0x03] := by decide +kernel

/-- 4.10: SLOT 2 shows HELD, region 3, home 00538h, two written offsets, open number 2. -/
theorem test_slot_bytes :
    (after (.slot (some 0x02)) (asked heldThree)).mgmt.response
      = [0x02, 0x03, 0x00, 0x05, 0x38, 0x02, 0x00, 0x02] := by decide +kernel

/-- R152: REPORT's last byte clears the unread flag. -/
theorem test_report_read_clears_unread :
    let s := asked (running.setCtrl { running.ctrl with report := { running.ctrl.report with unread := true } })
    (after .reportReadComplete (after .report s)).ctrl.report.unread = false := by decide +kernel

/-- R181: a MASK that clears bit 7 releases ALERT# while only GROUP_LIMIT is queued. -/
theorem test_mask_releases_alert :
    (after (.mask (some 0xFF) (some 0x7F)) (asked (wrote 0x60F 0x01 heldThree))).events.alert = false := by decide +kernel

/-- R198: GET MASK, most significant byte first. -/
theorem test_get_mask : (after .getMask (asked running)).mgmt.response = [0xFF, 0xFF] := by decide +kernel

/-- R171: a RECORD code is no default class. -/
theorem test_set_default_bad_arg : (after (.setDefault (some 0x01)) (asked running)).mgmt.status = 0x20 := by decide +kernel

/-- R167: STORE PROFILE takes the lowest FREE slot, 72 bytes for H + 32 = 1F7A0h. -/
theorem test_store_profile :
    ((after .storeProfile (asked running)).slot 0).length = 72
      ∧ ((after .storeProfile (asked running)).slot 0).home = some 0x1F7A0 := by decide +kernel

/-- R166: LOAD PROFILE is BUSY_LIVE while a slot is live. -/
theorem test_load_profile_busy : (after .loadProfile (asked heldThree)).mgmt.status = 0x11 := by decide +kernel

/-- R161: LOAD PROFILE reads the block at H + 32 first. -/
theorem test_load_profile_reads :
    (after .loadProfile (asked running)).port.inFlight
      = some { owner := .system, addr := 0x1F7A0, op := .read } := by decide +kernel

/-- R103: a format begins with 00h at journal offset 0, 1F800h. -/
theorem test_format_begins :
    (after .format (asked (part .locked))).port.inFlight
      = some { owner := .system, addr := 0x1F800, op := .write 0x00 } := by decide +kernel

/-- R126: RESUME returns the part to RUNNING with cause none. -/
theorem test_resume :
    let s := part .faulted
    let t := after .resume (asked (s.setCtrl { s.ctrl with cause := .apply }))
    t.ctrl.opState = .running ∧ t.ctrl.cause = .noCause := by decide +kernel

/-- R186: a fall of SCS# begins a transaction; its rise ends it. -/
theorem test_transaction :
    (after .transactionBegin running).mgmt.phase = .command
      ∧ (after .transactionEnd (after .transactionBegin running)).mgmt.phase = .idle := by decide +kernel

/-- R187: MASK with one of its two bytes complete leaves the port in PARAMETERS; the second byte brings it to its effect
point. -/
theorem test_parameters_phase :
    let s := after (.mask (some 0xFF) none) (asked running)
    (s.mgmt.phase, s.mgmt.params, s.table.mask) = (.parameters, [0xFF], 0xFFFF)
      ∧ (after (.mask (some 0xFF) (some 0x7F)) s).table.mask = 0xFF7F
      ∧ (after (.mask (some 0x00) (some 0x7F)) s).table.mask = 0xFFFF := by decide +kernel

/-- R187, R188: eight bit times after BAD_COMMAND its status byte is out, most significant bit first, and the port is in
TRAILER. -/
theorem test_bit_times :
    let m := (after (.badCommand 0xEE) (asked running)).mgmt
    (List.range 8).map (fun n => (MgmtPort.bitTime^[n] m).sdo)
        = [false, false, true, false, false, false, false, true].map SdoLevel.driven
      ∧ (MgmtPort.bitTime^[8] m).phase = .trailer := by decide +kernel

/-! ## Supply and PFAIL# -/

/-- R138, R140: POWER_UP from reset enters RECOVERING and reads anchor copy A at H = 1F780h. -/
theorem test_power_up :
    (after (.powerUp straps) State.reset).ctrl.opState = .recovering
      ∧ (after (.powerUp straps) State.reset).port.inFlight
        = some { owner := .system, addr := 0x1F780, op := .read } := by decide +kernel

/-- R23: a cycle taken in STARTING, and a transaction begun there, outlive the end of STARTING. -/
theorem test_power_up_keeps_held_cycle :
    let s := after (.powerUp straps) (after .transactionBegin (didRead 0x300 State.reset))
    (s.ctrl.opState, s.host.phase, s.host.hold, s.host.addr, s.mgmt.phase)
      = (.recovering, .holding, some .startUp, 0x300, .command) := by decide +kernel

/-- R154: PFAIL# in RUNNING enters FROZEN and notes the interrupted state. -/
theorem test_pfail_assert :
    (after (.pfailAssert .ok) heldThree).ctrl.opState = .frozen
      ∧ (after (.pfailAssert .ok) heldThree).ctrl.interrupted = .running := by decide +kernel

/-- R156: the restart logs PFAIL_RESTART with the interrupted state and the three live slots. -/
theorem test_pfail_restart :
    (after .pfailRestart (after (.pfailAssert .ok) heldThree)).events.queue.map (fun r =>
        (r.report.kind, r.report.detail, r.report.count)) = [(.pfailRestart, 0x03, 3)] := by decide +kernel

/-- R155: a loss of supply leaves the supply absent. -/
theorem test_supply_loss : (after (.supplyLoss .ok) running).supply = false := by decide +kernel

/-- R24: the release of SRST#. -/
theorem test_host_reset_release :
    (after .hostResetRelease (after .hostReset running)).pins.srst = false := by decide +kernel

/-- R21: a withdrawn held cycle is discarded. -/
theorem test_withdrawn_held_cycle :
    (after .hostCycleWithdrawn (didRead 0x100 (part .recovering))).host.phase = .idle := by decide +kernel

/-! ## Witnesses: a state and operands that meet the hypotheses of each statement -/

/-- Ranges that lie apart do not overlap. -/
theorem disjoint_of_apart {entries : Vector RegionEntry 8}
    (h : ∀ i j : Fin 8, i ≠ j → entries[i].valid = true → entries[j].valid = true →
      entries[i].limit.toNat < entries[j].base.toNat ∨ entries[j].limit.toNat < entries[i].base.toNat) :
    RegionTable.disjoint entries := by
  intro i j a hij hi
  by_contra hj
  simp only [RegionEntry.covers, Bool.and_eq_true, decide_eq_true_eq, Bool.not_eq_false] at hi hj
  have := h i j hij hi.1.1 hj.1.1
  omega

/-- The worked table is legal below H = 1F780h. -/
theorem exTable_legal :
    (∀ i : Fin 8, exTable.entries[i].normal 0x1F780) ∧ RegionTable.disjoint exTable.entries
      ∧ RegionTable.linked exTable.entries := by
  refine ⟨?_, disjoint_of_apart (by decide +kernel), ?_⟩
  · unfold RegionEntry.normal
    decide +kernel
  · unfold RegionTable.linked
    decide +kernel

/-- A state in RUNNING or FAULTED with the worked table has a legal table. -/
theorem legal_of_exTable {s : State} (ht : s.table = exTable) (hs : s.ctrl.straps = straps)
    (ho : s.ctrl.opState ∈ [OpState.running, .faulted]) : s.tableLegal := by
  refine ⟨?_, ?_, ?_, ?_⟩
  · rw [ht, State.base, hs]
    exact exTable_legal.1
  · rw [ht]
    exact exTable_legal.2.1
  · rw [ht]
    exact exTable_legal.2.2
  · intro h
    simp only [List.mem_cons, List.not_mem_nil, or_false] at h ho
    rcases ho with ho | ho <;> simp [ho] at h

/-- A state whose staging rules are checked field by field, with no group in the Writer's hands. -/
theorem staging_of_checks {s : State} (h1 : s.writer = Writer.idle) (h2 : s.journal.live = [])
    (h3 : ∀ i : Fin 8, ((s.slot i).state = .queued ↔ i ∈ s.stage.queued) ∧ (s.slot i).state ≠ .writing
      ∧ (s.slot i).state ≠ .logged ∧ (s.slot i).state ≠ .applying)
    (h4 : ∀ i t : Fin 8, (s.slot i).state = .held ∧ (s.slot i).waitsOn = some t ↔ i ∈ s.stage.held[t])
    (h5 : ∀ i : Fin 8, (s.slot i).state = .held → (s.slot i).waitsOn ≠ none)
    (h6 : s.stage.queued.Nodup ∧ ∀ t : Fin 8, s.stage.held[t].Nodup ∧ s.stage.held[t].length ≤ 3)
    (h7 : ∀ g ∈ s.stage.queue, g.sized) (h8 : s.versionsRight) (h9 : s.ctrl.opState = .running) :
    s.stagingRight := by
  have hw : s.writer.slots = [] := by
    rw [h1]
    rfl
  have hj : s.journal.slots = [] := by
    rw [Journal.slots, h2]
    rfl
  refine ⟨⟨fun i => (h3 i).1, fun i => ?_, fun i => ?_, h4, h5, h6.1, ?_, ?_, h6.2⟩, ⟨h7, ?_, ?_, ?_⟩, h8, ?_⟩
  · simp [hw, (h3 i).2.1]
  · simp [hj, (h3 i).2.2.1, (h3 i).2.2.2]
  · simp [hw]
  · simp [hj]
  · simp [h2]
  · simp [h1, Writer.idle]
  · simp [h1, Writer.idle]
  · simp [State.freeOutsideRunning, h9]

/-- The staging rules hold in the worked example with three HELD slots. -/
theorem heldThree_right : heldThree.stagingRight := by
  refine staging_of_checks rfl rfl (by decide +kernel) (by decide +kernel) (by decide +kernel) (by decide +kernel)
    ?_ ⟨by decide +kernel, by decide +kernel, by decide +kernel, by decide +kernel⟩ rfl
  intro g hg
  cases hg

/-- The staging rules hold with nothing staged. -/
theorem running_right : running.stagingRight := by
  refine staging_of_checks rfl rfl (by decide +kernel) (by decide +kernel) (by decide +kernel) (by decide +kernel)
    ?_ ⟨by decide +kernel, by decide +kernel, by decide +kernel, by decide +kernel⟩ rfl
  intro g hg
  cases hg

/-- StepRunsFrontCommand: a queue of two commands. -/
theorem test_witness_StepRunsFrontCommand :
    (running.setPending [.hostReset, .hostResetRelease]).pending = .hostReset :: [.hostResetRelease] := rfl

/-- RegionTableStaysLegal: a PUT REGION in the worked table, which has valid entries. -/
theorem test_witness_RegionTableStaysLegal :
    ∃ t, step ((asked running).setPending [.putRegion (some 0x04) (.whole entry4)]) = .next t
      ∧ ((asked running).setPending [.putRegion (some 0x04) (.whole entry4)]).tableLegal
      ∧ running.table.entries[(0 : Fin 8)].valid = true ∧ running.table.entries[(0 : Fin 8)].covers 0x1FF = true :=
  ⟨_, rfl, legal_of_exTable rfl rfl (by decide), by decide +kernel, by decide +kernel⟩

/-- A full event queue: fifteen records and an OVERFLOW. -/
def fullEvents : EventBlock where
  queue := (List.range 16).map fun k =>
    { report := if k = 15 then EventReport.overflow 1 else
        { kind := .hiddenAccess, detail := 0, region := none, address := none, count := 0 },
      serial := BitVec.ofNat 8 k }
  serial := 16
  alert := true

/-- EventBlockKeepsItsRules: a full queue, and one more event that arrives. -/
theorem test_witness_EventBlockKeepsItsRules :
    ∃ t, step ((running.setEvents fullEvents).setPending [.hostCycle true true false 0x1F780 0]) = .next t
      ∧ fullEvents.bounded ∧ fullEvents.serialsRise ∧ (running.setEvents fullEvents).alertRight := by
  refine ⟨_, rfl, ?_, ?_, ?_⟩
  · unfold EventBlock.bounded
    decide +kernel
  · intro k r h
    simp only [fullEvents, List.getElem?_map, Option.map_eq_some_iff] at h
    obtain ⟨n, hn, rfl⟩ := h
    obtain ⟨hk, rfl⟩ := List.getElem?_eq_some_iff.1 hn
    simp only [List.length_range] at hk
    simp only [List.getElem_range]
    interval_cases k <;> decide +kernel
  · unfold State.alertRight
    decide +kernel

/-- HrstoFollowsOperatingState: a step from RUNNING and one from FROZEN, and the two edges of SRST#. -/
theorem test_witness_HrstoFollowsOperatingState :
    (∃ t, step (running.setPending [.pfailAssert .ok]) = .next t) ∧ running.hrstoRight
      ∧ (part .frozen).hrstoRight ∧ (∃ t, exec .hostReset running = .next t)
      ∧ ∃ t, exec .hostResetRelease running = .next t := by
  refine ⟨⟨_, rfl⟩, ?_, ?_, ⟨_, rfl⟩, ⟨_, rfl⟩⟩ <;> unfold State.hrstoRight <;> decide +kernel

/-- OperatingStateChangesAsListed: a change of state, from a state with the right cause. -/
theorem test_witness_OperatingStateChangesAsListed :
    (∃ t, exec (.powerUp straps) State.reset = .next t ∧ t.ctrl.opState ≠ State.reset.ctrl.opState)
      ∧ State.reset.causeRight := by
  refine ⟨⟨_, rfl, by decide +kernel⟩, ?_⟩
  unfold State.causeRight
  decide +kernel

/-- HostPortAndFrozenStayRight: a host access in flight, and a part in FROZEN. -/
theorem test_witness_HostPortAndFrozenStayRight :
    (∃ t, step ((didRead 0x300 running).setPending [.memoryAccessComplete .ok .heldFirst]) = .next t)
      ∧ (didRead 0x300 running).hostPortRight
      ∧ (∃ t, step ((after (.pfailAssert .ok) running).setPending [.pfailRestart]) = .next t)
      ∧ (after (.pfailAssert .ok) running).frozenQuiet ∧ (after (.pfailAssert .ok) running).ctrl.opState = .frozen := by
  refine ⟨⟨_, rfl⟩, ⟨?_, ?_, ?_, ?_⟩, ⟨_, rfl⟩, ?_, by decide +kernel⟩
  · exact ⟨fun _ => ⟨{ owner := .requester .host, addr := 0x300, op := .read }, by decide +kernel, rfl⟩,
      fun _ => by decide +kernel⟩
  · decide +kernel
  · decide +kernel
  · decide +kernel
  · unfold State.frozenQuiet
    decide +kernel

/-- StagingStoreStaysRight: the trigger's commit byte with three slots HELD. -/
theorem test_witness_StagingStoreStaysRight :
    (∃ t, step (heldThree.setPending [.hostCycle true false true 0x43F 0x01]) = .next t)
      ∧ (heldThree.setPending [.hostCycle true false true 0x43F 0x01]).stagingRight :=
  ⟨⟨_, rfl⟩, heldThree_right⟩

/-- MemoryChangesOnlyByWriteInFlight: a write in flight over a canonical memory. -/
theorem test_witness_MemoryChangesOnlyByWriteInFlight :
    (∃ t, exec (.memoryAccessComplete .ok .heldFirst) (wrote 0x300 0x99 running) = .next t)
      ∧ Memory.wf (anchoring 536 2012 536 536).mem = true
      ∧ ∃ t, step ((wrote 0x300 0x99 running).setPending [.memoryAccessComplete .ok .heldFirst]) = .next t :=
  ⟨⟨_, rfl⟩, by decide +kernel, ⟨_, rfl⟩⟩

/-- A Writer with slot 0, two bytes 55h for home 00100h, in a phase at a step, with an access of its own in flight and one
memory byte listed. L is 14 and the entry lies at offset 0. -/
def writing (phase : WriterPhase) (idx retry : Nat) (addr : Nat) (b : Byte) : State :=
  flying (.requester .writer) addr .read
    (((running.setStage
      { (Staging.cleared (Vector.replicate 8 free)) with
        slots := (Vector.replicate 8 free).set 0
          { staged .writing 0 0x100 2 0 [(0, 0x55), (1, 0x55)] with group := some 0 },
        openCounter := 1, chain := [0] }).setWriter
      { Writer.idle with
        phase := phase, group := some { tag := 0, slots := [0] }, length := 14, retry := retry, idx := idx,
        check := 0x1234 }).setMem [(addr, b)])

/-- MarkOnlyAfterVerify: the last readback of VERIFY compares equal. -/
theorem test_witness_MarkOnlyAfterVerify :
    ∃ t, exec (.memoryAccessComplete .ok .heldFirst) (writing .verify 12 0 0x1F80D 0x55) = .next t
      ∧ (writing .verify 12 0 0x1F80D 0x55).writer.phase ≠ .mark ∧ t.writer.phase = .mark := by
  refine ⟨after (.memoryAccessComplete .ok .heldFirst) (writing .verify 12 0 0x1F80D 0x55), rfl, ?_, ?_⟩ <;>
    decide +kernel

/-- WriterSparesHomesAndAnchorWriteSparesCopyInUse: a Writer at its first write, and the steps of an anchor write beside copy B. -/
theorem test_witness_WriterSparesHomesAndAnchorWriteSparesCopyInUse :
    (writing .write 0 0 0x1F80D 0x55).writerWants
        = some { owner := .requester .writer, addr := 0x1F800, op := .write 0x00 }
      ∧ (anchoring 536 2012 536 536).journal.inUse = some .b
      ∧ (anchoring 536 2012 536 536).anchorProgram 536 536 2 ≠ [] := by decide +kernel

/-- RegionEntryReadsBack: a following RECORD entry with RSIZE 2 and an invalid entry. -/
theorem test_witness_RegionEntryReadsBack :
    (recordEntry 0x100 0x101 2 1 (some 7)).normal 0x1F780 ∧ RegionEntry.invalid.normal 0x1F780 := by
  unfold RegionEntry.normal
  decide +kernel

/-- AnchorCopiesReadBackAndChoose: a head at J, another mark, and generations at the ends of both ranges. -/
theorem test_witness_AnchorCopiesReadBackAndChoose :
    2048 ≤ journalSize straps ∧ (0x00 : Byte) ≠ 0x4C
      ∧ ((0 : Word16) - 0xFFFF).toNat ∈ Set.Icc 1 32767 ∧ ((0x7FFF : Word16) - 0).toNat ∈ Set.Icc 1 32767
      ∧ ((5 : Word16) - 5).toNat ∉ Set.Icc 1 32767 ∧ ((0x8000 : Word16) - 0).toNat ∉ Set.Icc 1 32767 := by
  simp only [Set.mem_Icc]
  decide +kernel

/-- WrittenEntryIsWellFormed: four segments of 128 bytes that end at J, and one byte at offset 0. -/
theorem test_witness_WrittenEntryIsWellFormed :
    (let segs := List.replicate 4 ({ home := 0x1F700, data := List.replicate 128 0xAA } : Segment);
      1 ≤ segs.length ∧ segs.length ≤ 4
        ∧ (∀ g ∈ segs, 1 ≤ g.data.length ∧ g.data.length ≤ 128 ∧ g.home < 2 ^ 24 ∧ segmentInRange straps g = true)
        ∧ 1512 + entryLength (segs.map fun g => g.data.length) ≤ journalSize straps)
      ∧ (let segs := [({ home := 0, data := [0xAA] } : Segment)];
        1 ≤ segs.length ∧ segs.length ≤ 4
          ∧ (∀ g ∈ segs, 1 ≤ g.data.length ∧ g.data.length ≤ 128 ∧ g.home < 2 ^ 24 ∧ segmentInRange straps g = true)
          ∧ 0 + entryLength (segs.map fun g => g.data.length) ≤ journalSize straps) := by
  decide +kernel

/-- ProfileImageReadsBack: the worked table. -/
theorem test_witness_ProfileImageReadsBack : ∀ i : Fin 8, exTable.entries[i].normal 0x1F780 := exTable_legal.1

/-- EntryLengthIsBounded: the shortest and the longest entry, and a Writer in PLACE. -/
theorem test_witness_EntryLengthIsBounded :
    (1 ≤ [2].length ∧ [2].length ≤ 4 ∧ ∀ n ∈ [2], 2 ≤ n ∧ n ≤ 128)
      ∧ (1 ≤ (List.replicate 4 128).length ∧ (List.replicate 4 128).length ≤ 4
        ∧ ∀ n ∈ List.replicate 4 128, 2 ≤ n ∧ n ≤ 128)
      ∧ (placing 0 0 0 14).writer.phase = .place ∧ ∃ t, exec .writerPlace (placing 0 0 0 14) = .next t :=
  ⟨by decide, by decide, rfl, ⟨after .writerPlace (placing 0 0 0 14), rfl⟩⟩

/-- JournalLiesAtTopOfMemory: the straps of the example. -/
theorem test_witness_JournalLiesAtTopOfMemory :
    running.ctrl.straps.msz = 1 ∧ running.ctrl.straps.jsz = 0 := by decide

/-- SupplyChangesClearVolatileState: STARTING with PFAIL# released, without and with a held cycle, no supply with PFAIL#
asserted, and a loss of supply with a write at M - 1 in flight. -/
theorem test_witness_SupplyChangesClearVolatileState :
    (State.reset.ctrl.opState = .starting ∧ State.reset.pins.pfail = false ∧ State.reset.host.phase ≠ .holding)
      ∧ (let s := didRead 0x300 State.reset;
        s.supply = true ∧ s.ctrl.opState = .starting ∧ s.pins.pfail = false ∧ s.host.phase = .holding)
      ∧ (let s := (running.setSupply false).setPins { running.pins with pfail := true };
        s.supply = false ∧ s.pins.pfail = true)
      ∧ (let s := flying (.requester .host) 0x1FFFF (.write 0x99) running;
        s.supply = true ∧ s.inMemory) := by
  refine ⟨by decide +kernel, by decide +kernel, by decide +kernel, rfl, ?_⟩
  intro a h
  cases h
  decide +kernel

/-- PfailAssertFreezes: RUNNING with an access at M - 1 in flight, and STARTING. -/
theorem test_witness_PfailAssertFreezes :
    (let s := flying (.requester .host) 0x1FFFF (.write 0x99) running;
      s.supply = true ∧ s.ctrl.opState ≠ .frozen ∧ s.ctrl.opState ≠ .starting ∧ s.inMemory)
      ∧ State.reset.supply = true ∧ State.reset.ctrl.opState = .starting ∧ State.reset.port.inFlight = none := by
  refine ⟨⟨rfl, by decide, by decide, ?_⟩, rfl, rfl, rfl⟩
  intro a h
  cases h
  decide +kernel

/-- PfailRestartClearsAndKeeps: FROZEN with slots live. -/
theorem test_witness_PfailRestartClearsAndKeeps :
    let s := after (.pfailAssert .ok) heldThree;
    s.supply = true ∧ s.ctrl.opState = .frozen ∧ s.port.inFlight = none := by decide +kernel

/-- HostResetActsByState: RUNNING with HELD slots, LOCKED, and FROZEN. -/
theorem test_witness_HostResetActsByState :
    (heldThree.supply = true ∧ heldThree.pins.srst = false
        ∧ heldThree.ctrl.opState ∈ [OpState.running, .faulted] ∧ heldThree.stage.count .held ≠ 0)
      ∧ (running.stage.count .filling = 0 ∧ running.stage.count .held = 0)
      ∧ ((part .locked).supply = true ∧ (part .locked).pins.srst = false
        ∧ (part .locked).ctrl.opState ∈ [OpState.starting, .recovering, .initload, .reloading, .locked])
      ∧ (part .frozen).supply = true ∧ (part .frozen).ctrl.opState = .frozen := by decide +kernel

/-- CyclesBeginAndEnd: each reason to take no cycle, an answered, a held and a waiting cycle. -/
theorem test_witness_CyclesBeginAndEnd :
    (didRead 0x300 running).host.phase ≠ .idle ∧ (after .hostReset running).pins.srst = true
      ∧ (part .frozen).ctrl.opState = .frozen
      ∧ ((didRead 0x1F780 running).supply = true ∧ (didRead 0x1F780 running).host.phase = .answered)
      ∧ ((didRead 0x100 (part .recovering)).supply = true ∧ (didRead 0x100 (part .recovering)).host.phase = .holding)
      ∧ ((didRead 0x300 running).supply = true
        ∧ (didRead 0x300 running).host.phase ∈ [HostPhase.waiting, .access]
        ∧ (didRead 0x300 running).host.fate = .awaited) := by decide +kernel

/-- LookupTakesFirstCase: the last address of each case, in the legal worked table. -/
theorem test_witness_LookupTakesFirstCase :
    running.tableLegal ∧ memorySize running.ctrl.straps ≤ 0x20000
      ∧ (running.base ≤ 0x1F780 ∧ 0x1FFFF < memorySize running.ctrl.straps)
      ∧ (0x1F77F < running.base ∧ ∀ i : Fin 8, running.table.entries[i].covers 0x1F77F = false)
      ∧ running.table.entries[(1 : Fin 8)].covers 0xFFFF = true
      ∧ running.table.entries[(2 : Fin 8)].covers 0x47F = true :=
  ⟨legal_of_exTable rfl rfl (by decide), by decide +kernel⟩

/-- OpenCycleGoesToMemory: an OPEN write, a READONLY read, a busy and a free port, and LOCKED. -/
theorem test_witness_OpenCycleGoesToMemory :
    running.takesCycles = true ∧ running.ctrl.opState ∈ [OpState.running, .faulted]
      ∧ (running.lookup (0x300 : Addr).toNat).cls = .openClass
      ∧ (running.lookup (0xFFFF : Addr).toNat).cls = .readonly
      ∧ (running.port.inFlight = none ∧ running.writerWants = none ∧ running.applierWants = none)
      ∧ (flying (.requester .writer) 0 .read running).takesCycles = true
      ∧ (flying (.requester .writer) 0 .read running).port.inFlight ≠ none
      ∧ ((part .locked).takesCycles = true ∧ (part .locked).ctrl.opState = .locked
        ∧ (part .locked).ctrl.format = none ∧ ((part .locked).lookup (0x300 : Addr).toNat).cls = .openClass) := by
  decide +kernel

/-- WritesAreDeniedByClassAndState: a READONLY write, LOCKED without a format, and a RECORD write in FAULTED. -/
theorem test_witness_WritesAreDeniedByClassAndState :
    (running.takesCycles = true ∧ running.ctrl.opState ∈ [OpState.running, .faulted]
        ∧ (running.lookup (0xFFFF : Addr).toNat).cls = .readonly)
      ∧ ((part .locked).takesCycles = true ∧ (part .locked).ctrl.opState = .locked
        ∧ (part .locked).ctrl.format = none)
      ∧ (let s := (part .faulted).setTable exTable;
        s.takesCycles = true ∧ s.ctrl.opState = .faulted ∧ (s.lookup (0x1FF : Addr).toNat).cls = .record) := by
  decide +kernel

/-- HiddenCycleIsAnsweredAtOnce: the first hidden and the first beyond address, and LOCKED. -/
theorem test_witness_HiddenCycleIsAnsweredAtOnce :
    running.takesCycles = true ∧ running.ctrl.opState ∈ [OpState.running, .faulted]
      ∧ running.base ≤ (0x1F780 : Addr).toNat ∧ memorySize running.ctrl.straps ≤ (0x20000 : Addr).toNat
      ∧ ((part .locked).takesCycles = true ∧ (part .locked).ctrl.opState = .locked
        ∧ (part .locked).ctrl.format = none) := by decide +kernel

/-- CyclesAreHeldDuringStartUpAndLoad: RECOVERING, and LOCKED with a format in progress. -/
theorem test_witness_CyclesAreHeldDuringStartUpAndLoad :
    ((part .recovering).takesCycles = true
        ∧ (part .recovering).ctrl.opState ∈ [OpState.starting, .recovering, .initload, .reloading])
      ∧ (let s := (part .locked).setCtrl { (part .locked).ctrl with format := some 5 };
        s.takesCycles = true ∧ s.ctrl.opState = .locked ∧ s.ctrl.format ≠ none) := by decide +kernel

/-- The record reference of 00538h in the worked table. -/
def ref538 (offset : Nat) : RecordRef :=
  { region := 3, home := 0x538, offset := offset, length := 8, isCommit := offset == 7, follows := some 2,
    isTrigger := false }

/-- RecordReadFindsNewestByte: 00539h is in slot 2, the newest of the chain; 0053Bh is in none. -/
theorem test_witness_RecordReadFindsNewestByte :
    heldThree.takesCycles = true ∧ heldThree.ctrl.opState ∈ [OpState.running, .faulted]
      ∧ ((heldThree.lookup (0x539 : Addr).toNat).cls = .record
        ∧ (heldThree.lookup (0x539 : Addr).toNat).ref = some (ref538 1)
        ∧ heldThree.stage.chain = [0, 1] ++ 2 :: []
        ∧ (heldThree.slot 2).ofRecord 3 0x538 = true ∧ (heldThree.slot 2).written.getLsbD 1 = true)
      ∧ ((heldThree.lookup (0x53B : Addr).toNat).cls = .record
        ∧ (heldThree.lookup (0x53B : Addr).toNat).ref = some (ref538 3)
        ∧ ∀ k ∈ heldThree.stage.chain, (heldThree.slot k).ofRecord 3 0x538 = true →
          (heldThree.slot k).written.getLsbD 3 = false) := by decide +kernel

/-- The record reference of record 0 of region 0. -/
def ref100 (offset : Nat) : RecordRef :=
  { region := 0, home := 0x100, offset := offset, length := 16, isCommit := offset == 15, follows := none,
    isTrigger := false }

/-- A FILLING slot 0 of record 0 of region 0. -/
def oneFilling : State :=
  running.setStage
    { slots := (Vector.replicate 8 free).set 0 (staged .filling 0 0x100 16 0 [(0, 0x55)]), openCounter := 1,
      queue := [], chain := [0], held := Vector.replicate 8 [] }

/-- The staging rules hold with one FILLING slot. -/
theorem oneFilling_right : oneFilling.stagingRight := by
  refine staging_of_checks rfl rfl (by decide +kernel) (by decide +kernel) (by decide +kernel) (by decide +kernel)
    ?_ ⟨by decide +kernel, by decide +kernel, by decide +kernel, by decide +kernel⟩ rfl
  intro g hg
  cases hg

/-- RecordWriteStoresByte: an allocation of slot 0, and a byte for the FILLING slot. -/
theorem test_witness_RecordWriteStoresByte :
    (running.takesCycles = true ∧ running.ctrl.opState = .running ∧ running.tableLegal ∧ running.stagingRight
        ∧ (running.lookup (0x10E : Addr).toNat).ref = some (ref100 14) ∧ (ref100 14).isCommit = false
        ∧ running.takesByte (ref100 14) 0)
      ∧ (oneFilling.takesCycles = true ∧ oneFilling.ctrl.opState = .running ∧ oneFilling.tableLegal
        ∧ oneFilling.stagingRight ∧ (oneFilling.lookup (0x100 : Addr).toNat).ref = some (ref100 0)
        ∧ oneFilling.takesByte (ref100 0) 0) := by
  refine ⟨⟨by decide +kernel, rfl, legal_of_exTable rfl rfl (by decide), running_right, by decide +kernel, rfl, ?_⟩,
    by decide +kernel, rfl, legal_of_exTable rfl rfl (by decide), oneFilling_right, by decide +kernel, ?_⟩ <;>
  · unfold State.takesByte
    decide +kernel

/-- CommitByteQueuesUnlinkedRecord: the commit byte of the FILLING slot. -/
theorem test_witness_CommitByteQueuesUnlinkedRecord :
    oneFilling.takesCycles = true ∧ oneFilling.ctrl.opState = .running ∧ oneFilling.tableLegal
      ∧ oneFilling.stagingRight ∧ (oneFilling.lookup (0x10F : Addr).toNat).ref = some (ref100 15)
      ∧ (ref100 15).isCommit = true ∧ (ref100 15).follows = none ∧ (ref100 15).isTrigger = false
      ∧ oneFilling.takesByte (ref100 15) 0 := by
  refine ⟨by decide +kernel, rfl, legal_of_exTable rfl rfl (by decide), oneFilling_right, by decide +kernel, rfl,
    rfl, rfl, ?_⟩
  unfold State.takesByte
  decide +kernel

/-- FollowerCommitHoldsOrMeetsLimit: an empty held list, and one of three. -/
theorem test_witness_FollowerCommitHoldsOrMeetsLimit :
    (running.takesCycles = true ∧ running.ctrl.opState = .running ∧ running.tableLegal ∧ running.stagingRight
        ∧ (running.lookup (0x53F : Addr).toNat).ref = some (ref538 7) ∧ (ref538 7).isCommit = true
        ∧ (ref538 7).follows = some 2 ∧ running.takesByte (ref538 7) 0
        ∧ running.stage.held[(2 : Fin 8)].length < 3)
      ∧ (heldThree.takesCycles = true ∧ heldThree.ctrl.opState = .running ∧ heldThree.tableLegal
        ∧ heldThree.stagingRight ∧ (heldThree.lookup (0x53F : Addr).toNat).ref = some (ref538 7)
        ∧ heldThree.takesByte (ref538 7) 3 ∧ heldThree.stage.held[(2 : Fin 8)].length = 3) := by
  refine ⟨⟨by decide +kernel, rfl, legal_of_exTable rfl rfl (by decide), running_right, by decide +kernel, rfl, rfl,
      ?_, by decide +kernel⟩,
    by decide +kernel, rfl, legal_of_exTable rfl rfl (by decide), heldThree_right, by decide +kernel, ?_,
    by decide +kernel⟩ <;>
  · unfold State.takesByte
    decide +kernel

/-- The record reference of the commit byte of record 1 of the trigger region 2. -/
def ref420 : RecordRef :=
  { region := 2, home := 0x420, offset := 31, length := 32, isCommit := true, follows := none, isTrigger := true }

/-- TriggerCommitQueuesHeldSlots: the commit byte of 4.10 step 5, with three slots HELD. -/
theorem test_witness_TriggerCommitQueuesHeldSlots :
    heldThree.takesCycles = true ∧ heldThree.ctrl.opState = .running ∧ heldThree.tableLegal
      ∧ heldThree.stagingRight ∧ (heldThree.lookup (0x43F : Addr).toNat).ref = some ref420
      ∧ ref420.isCommit = true ∧ ref420.follows = none ∧ ref420.isTrigger = true
      ∧ heldThree.takesByte ref420 3 := by
  refine ⟨by decide +kernel, rfl, legal_of_exTable rfl rfl (by decide), heldThree_right, by decide +kernel, rfl,
    rfl, rfl, ?_⟩
  unfold State.takesByte
  decide +kernel

/-- FullStoreHoldsOrRefuses: eight QUEUED slots, and eight FILLING ones, for a record of none of them. -/
theorem test_witness_FullStoreHoldsOrRefuses :
    [SlotState.queued, .filling].all (fun st =>
        decide ((fullStore st).takesCycles = true ∧ (fullStore st).ctrl.opState = .running
          ∧ ((fullStore st).lookup (0x100 : Addr).toNat).ref = some (ref100 0)
          ∧ (∀ k : Fin 8, ((fullStore st).slot k).state ≠ .free)
          ∧ ∀ k : Fin 8, ((fullStore st).slot k).state = .filling →
            ((fullStore st).slot k).ofRecord 0 0x100 = false)) = true
      ∧ (∃ k : Fin 8, ((fullStore .queued).slot k).state ∈ [SlotState.queued, .writing, .logged, .applying])
      ∧ ∀ k : Fin 8, ((fullStore .filling).slot k).state ∈ [SlotState.filling, .held] := by decide +kernel

/-- CompletedAccessMovesOneByte: accesses at M - 1 and at M. -/
theorem test_witness_CompletedAccessMovesOneByte :
    running.supply = true ∧ 0x1FFFF < memorySize running.ctrl.straps ∧ memorySize running.ctrl.straps ≤ 0x20000
      ∧ (flying (.requester .host) 0x20000 .read running).port.inFlight ≠ none
      ∧ Memory.wf running.mem = true := by decide +kernel

/-- HostAccessIsAnswered: an awaited read, an awaited write and a withdrawn cycle. -/
theorem test_witness_HostAccessIsAnswered :
    (let s := didRead 0x300 running;
      s.supply = true ∧ s.port.inFlight = some { owner := .requester .host, addr := 0x300, op := .read }
        ∧ 0x300 < memorySize s.ctrl.straps ∧ s.host.fate = .awaited ∧ s.host.kind = .read)
      ∧ (let s := wrote 0x300 0x99 running;
        s.port.inFlight = some { owner := .requester .host, addr := 0x300, op := .write 0x99 }
          ∧ s.host.fate = .awaited ∧ s.host.kind = .write)
      ∧ (after .hostCycleWithdrawn (didRead 0x300 running)).host.fate ≠ .awaited := by decide +kernel

/-- A free port with the host, the Writer and the Applier all waiting, the Writer granted last. -/
def allWait : State :=
  ((((anchoring 536 2012 536 536).setWriter (writing .write 0 0 0 1).writer).setStage (writing .write 0 0 0 1).stage).setHost
    { HostPort.idle with phase := .waiting, addr := 0x300 }).setPort { inFlight := none, lastGranted := .writer }

/-- ArbiterGrantsInRotation: with all three waiting the Applier is first after the Writer, and with none waiting nothing
is granted. -/
theorem test_witness_ArbiterGrantsInRotation :
    (allWait.supply = true ∧ allWait.ctrl.opState = .running ∧ allWait.port.inFlight = none
        ∧ (allWait.wants .host).isSome = true ∧ (allWait.wants .writer).isSome = true
        ∧ (allWait.wants .applier).isSome = true
        ∧ [Requester.applier, .host, .writer] = [] ++ .applier :: [.host, .writer])
      ∧ (running.port.inFlight = none ∧ ∀ q ∈ Requester.all, running.wants q = none) := by decide +kernel

/-- A QUEUED group of slots 0 and 1, its own bytes all held. -/
def queuedGroup : State :=
  running.setStage
    { slots := ((Vector.replicate 8 free).set 0 (staged .queued 0 0x100 2 0 [(0, 0x55), (1, 0x55)])).set 1
        (staged .queued 0 0x110 2 1 [(1, 0x55)]),
      openCounter := 2, queue := [{ tag := 1, slots := [0, 1] }], chain := [0, 1], held := Vector.replicate 8 [] }

/-- The same group with slot 1 a newer version of the record of slot 0. -/
def queuedVersions : State :=
  queuedGroup.setStage
    { queuedGroup.stage with
      slots := queuedGroup.stage.slots.set 1 (staged .queued 0 0x100 2 1 [(1, 0x66)]) }

/-- WriterTakesHeadGroup: an empty queue; a group of two slots whose second needs a home byte, and one whose second takes
offset 0 from the first and keeps its own offset 1; and a held write that is left to the take. -/
theorem test_witness_WriterTakesHeadGroup :
    (queuedGroup.supply = true ∧ queuedGroup.ctrl.opState = .running ∧ queuedGroup.writer.phase = .idle
        ∧ queuedGroup.writer.clearing = 0 ∧ queuedGroup.stage.queue = { tag := 1, slots := [0, 1] } :: []
        ∧ (after .writerTakeGroup queuedGroup).writer.phase = .merge)
      ∧ (queuedVersions.stage.queue = { tag := 1, slots := [0, 1] } :: []
        ∧ (queuedVersions.slot 1).written.getLsbD 0 = false
        ∧ ((after .writerTakeGroup queuedVersions).slot 1).written.getLsbD 0 = true
        ∧ queuedVersions.stage.chain.Nodup ∧ (1 : Fin 8) ∈ queuedVersions.stage.chain
        ∧ ((after .writerTakeGroup queuedVersions).slot 1).data = [0x55, 0x66]
        ∧ (after .writerTakeGroup queuedVersions).writer.phase = .place ∧ queuedVersions.host.hold ≠ some .slot)
      ∧ (let s := leftToTake.setStage { leftToTake.stage with queue := [{ tag := 4, slots := [4] }] };
        s.host.phase = .holding ∧ s.host.hold = some .slot ∧ s.host.kind = .write ∧ s.ctrl.opState = .running
          ∧ (s.slot 0).state = .free ∧ s.pending.head? ≠ some .storeProfile
          ∧ s.writer.phase = .idle ∧ s.writer.clearing = 0 ∧ s.stage.queue = { tag := 4, slots := [4] } :: [])
      ∧ running.supply = true ∧ running.ctrl.opState = .running ∧ running.writer.phase = .idle
      ∧ running.writer.clearing = 0 ∧ running.stage.queue = [] := by decide +kernel

/-- A Writer in MERGE whose slot 0 lacks offset 1. -/
def merging : State :=
  let s := writing .merge 0 0 0x101 0x66
  s.setStage
    { s.stage with
      slots := (Vector.replicate 8 free).set 0 { staged .writing 0 0x100 2 0 [(0, 0x55)] with group := some 0 } }

/-- The staging rules hold while the Writer merges. -/
theorem merging_right : merging.stagingRight := by
  refine ⟨⟨?_, ?_, ?_, ?_, ?_, ?_, ?_, ?_, ?_⟩, ⟨?_, ?_, ?_, ?_⟩, ⟨?_, ?_, ?_, ?_⟩, ?_⟩
  case refine_10 =>
    intro g hg
    cases hg
  case refine_11 =>
    intro g hg
    cases hg
  case refine_12 =>
    intro g hg
    cases hg
    exact ⟨by decide, by decide⟩
  case refine_18 =>
    intro h
    simp only [List.mem_cons, List.not_mem_nil, or_false] at h
    rcases h with h | h | h | h | h <;> cases h
  all_goals decide +kernel

/-- MergeKeepsHeldBytes: the merge reads the home byte for offset 1. -/
theorem test_witness_MergeKeepsHeldBytes :
    merging.supply = true ∧ merging.stagingRight
      ∧ merging.port.inFlight = some { owner := .requester .writer, addr := 0x101, op := .read }
      ∧ merging.writer.phase = .merge ∧ (∃ t, exec (.memoryAccessComplete .ok .heldFirst) merging = .next t)
      ∧ (0 : Fin 8) ∈ merging.writer.slots ∧ (merging.slot 0).written.getLsbD 0 = true
      ∧ merging.stage.mergeNeed merging.writer.slots = some (0, 1)
      ∧ merging.ctrl.opState = .running ∧ (merging.slot 0).home = some 0x100 :=
  ⟨rfl, merging_right, rfl, rfl, ⟨after (.memoryAccessComplete .ok .heldFirst) merging, rfl⟩, by decide +kernel⟩

/-- WriterPlacesEntry: an entry in line that ends at J, one that wraps (5.8 step 5) and one that waits (5.8 step 6); and
a held write that is left to the placement. -/
theorem test_witness_WriterPlacesEntry :
    (∀ s ∈ [placing 0 0 0 536, placing 536 1608 1072 500, placing 536 500 2012 84],
        s.supply = true ∧ s.ctrl.opState = .running ∧ s.writer.phase = .place ∧ s.host.hold ≠ some .slot)
      ∧ (let s := leftToTake.setWriter (placing 0 0 0 536).writer;
        s.host.phase = .holding ∧ s.host.hold = some .slot ∧ s.host.kind = .write ∧ s.ctrl.opState = .running
          ∧ (s.slot 0).state = .free ∧ s.pending.head? ≠ some .storeProfile
          ∧ s.supply = true ∧ s.writer.phase = .place)
      ∧ (let s := placing 1512 1512 0 536;
        s.journal.tail + s.writer.length ≤ s.journalLength
          ∧ s.journal.rangeFree s.journalLength s.journal.tail s.writer.length = true)
      ∧ (let s := placing 536 1608 1072 500;
        s.journalLength < s.journal.tail + s.writer.length
          ∧ s.journal.rangeFree s.journalLength 0 s.writer.length = true)
      ∧ (let s := placing 536 500 2012 84;
        s.journal.tail + s.writer.length ≤ s.journalLength ∧ s.journal.holds s.journalLength 536 = true) := by
  decide +kernel

/-- PlacementKeepsHeldSpan: the shortest and the longest entry. -/
theorem test_witness_PlacementKeepsHeldSpan :
    ∀ s ∈ [placing 2048 0 0 14, placing 536 1608 1072 536],
      (s.journal.head ≤ s.journalLength ∧ s.journal.tail ≤ s.journalLength ∧ s.journal.held ≤ s.journalLength
          ∧ (s.journal.head + s.journal.held) % s.journalLength = s.journal.tail % s.journalLength)
        ∧ 14 ≤ s.writer.length ∧ s.writer.length ≤ 536
        ∧ (after .writerPlace s).writer.phase = .write := by decide +kernel

/-- ApplierTakesHeadEntry: an IDLE Applier with one live entry, without and with a held write left to the take. -/
theorem test_witness_ApplierTakesHeadEntry :
    (let s := (anchoring 536 2012 536 536).setApplier Applier.idle;
      s.supply = true ∧ s.ctrl.opState = .running ∧ s.applier.phase = .idle ∧ s.journal.live ≠ []
        ∧ s.host.hold ≠ some .slot)
      ∧ (let s := leftToTake;
        s.host.phase = .holding ∧ s.host.hold = some .slot ∧ s.host.kind = .write ∧ s.ctrl.opState = .running
          ∧ (s.slot 0).state = .free ∧ s.pending.head? ≠ some .storeProfile
          ∧ s.supply = true ∧ s.applier.phase = .idle
          ∧ (s.journal.live.head?.map fun e => e.group.slots) = some [4]) := by decide +kernel

/-- ValidMarkReadBackLogsEntry: the readback of the mark at offset 0. -/
theorem test_witness_ValidMarkReadBackLogsEntry :
    let s := writing .mark 1 0 0x1F800 0xA5;
    s.supply = true ∧ s.port.inFlight = some { owner := .requester .writer, addr := 0x1F800, op := .read }
      ∧ 0x1F800 < memorySize s.ctrl.straps ∧ s.writer.phase = .mark ∧ s.writer.idx = 1
      ∧ s.writer.group = some { tag := 0, slots := [0] } ∧ s.mem.read 0x1F800 = 0xA5
      ∧ s.host.hold ≠ some .slot := by decide +kernel

/-- An Applier in HOME at the readback of the first of two bytes at 00100h, or in ANCHOR at that of the mark of copy A,
where memory holds another byte. -/
def applying (phase : ApplierPhase) (retry : Nat) : State :=
  let s := anchoring 536 2012 536 536
  let home := phase == .home
  (((flying (.requester .applier) (if home then 0x100 else 0x1F780) .read s).setStage
      (writing .mark 1 0 0 1).stage).setApplier
    { Applier.idle with phase := phase, idx := if home then 2 else 32, retry := retry }).setMem
      [(0x100, 0x24), (0x1F780, 0x24)]

/-- JournalFaultRetriesThenFaults: the readback of the mark, of a home byte and of the anchor mark compare unequal, with
retry count 0, with 1, and with 1 and a write in the slot hold. -/
theorem test_witness_JournalFaultRetriesThenFaults :
    (∀ r ∈ [0, 1], let s := writing .mark 1 r 0x1F800 0x24;
      s.supply = true ∧ s.ctrl.opState = .running
        ∧ s.port.inFlight = some { owner := .requester .writer, addr := 0x1F800, op := .read }
        ∧ 0x1F800 < memorySize s.ctrl.straps ∧ s.writer.phase ∈ [WriterPhase.verify, .mark]
        ∧ s.writerProgram[s.writer.idx]? = some { addr := 0x1F800, byte := 0xA5, verify := true }
        ∧ s.mem.read 0x1F800 ≠ 0xA5 ∧ s.writer.retry = r ∧ s.writer.resuming = false ∧ s.host.hold ≠ some .slot)
      ∧ (let s := (writing .mark 1 1 0x1F800 0x24).setHost (wrote 0x100 0x01 (fullStore .queued)).host;
        s.port.inFlight = some { owner := .requester .writer, addr := 0x1F800, op := .read }
          ∧ s.writerProgram[s.writer.idx]? = some { addr := 0x1F800, byte := 0xA5, verify := true }
          ∧ s.mem.read 0x1F800 ≠ 0xA5 ∧ s.writer.retry = 1 ∧ s.writer.resuming = false
          ∧ s.host.phase = .holding ∧ s.host.hold = some .slot)
      ∧ (∀ r ∈ [0, 1], let s := applying .home r;
        s.supply = true ∧ s.ctrl.opState = .running
          ∧ s.port.inFlight = some { owner := .requester .applier, addr := 0x100, op := .read }
          ∧ s.applierProgram[s.applier.idx]? = some { addr := 0x100, byte := 0x55, verify := true }
          ∧ s.mem.read 0x100 ≠ 0x55 ∧ s.applier.retry = r ∧ s.applier.resuming = false ∧ s.journal.live.length = 1
          ∧ s.host.hold ≠ some .slot)
      ∧ (let s := applying .anchor 1;
        s.port.inFlight = some { owner := .requester .applier, addr := 0x1F780, op := .read }
          ∧ s.applierProgram[s.applier.idx]? = some { addr := 0x1F780, byte := 0x4C, verify := true }
          ∧ s.mem.read 0x1F780 ≠ 0x4C ∧ s.applier.retry = 1) := by decide +kernel

/-- R52: the held write takes the slot that the anchor write frees, whichever order is asked for without STORE PROFILE;
with it next and first, the write stays held. -/
theorem test_held_write_takes_freed_slot :
    (let t := after (.memoryAccessComplete .ok .otherFirst) heldWrite;
      (t.host.phase, (t.slot 0).state, (t.slot 0).home) = (.answered, .filling, some 0x150))
    ∧ (let t := after (.memoryAccessComplete .ok .otherFirst) ((asked heldWrite).setPending [.storeProfile]);
      let u := after .storeProfile t;
      (t.host.phase, (t.slot 0).state, u.host.phase, (u.slot 0).state) = (.holding, .free, .holding, .queued)) := by
  decide +kernel

/-- R33, R52: a write that STORE PROFILE leaves without a FREE slot is decoded afresh: after a table edit that made its
address READONLY it is refused and answered. -/
theorem test_store_profile_redecodes_held_write :
    let s := (asked heldWrite).setTable
      { exTable with entries := exTable.entries.set 0 { recordEntry 0x100 0x1FF 0 0 none with cls := .readonly } }
    let t := after .storeProfile
      (after (.memoryAccessComplete .ok .otherFirst) (s.setPending [.storeProfile]))
    t.host.phase = .answered ∧ t.events.queue.map (·.report.kind) = [.writeDenied] := by decide +kernel

/-- R38: the re-decoded write, now OPEN, posts its request before the arbiter's choice or after it; the Writer waits. -/
theorem test_redecoded_write_and_arbiter :
    let s := (heldWrite.setTable { exTable with entries := RegionTable.noEntries }).setWriter
      (writing .write 0 0 0 1).writer
    ((after (.memoryAccessComplete .ok .heldFirst) s).port.lastGranted,
        (after (.memoryAccessComplete .ok .otherFirst) s).port.lastGranted) = (.host, .writer)
      ∧ (after (.memoryAccessComplete .ok .otherFirst) s).host.phase = .waiting := by decide +kernel

/-- R38: the VALID mark is read back with the host WAITING and the Applier IDLE: the Applier's request comes after the
choice (the host is granted) or before it (the Applier, next after the Writer, is granted). -/
theorem test_take_and_arbiter :
    let w := writing .mark 1 0 0x1F800 0xA5
    let s := (didRead 0x300 (w.setPort { w.port with lastGranted := .writer })).setPending [.applierTakeEntry]
    let early := fun o : Order => (after .applierTakeEntry (after (.memoryAccessComplete .ok o) s)).port.lastGranted
    [Order.heldFirst, .otherFirst, .heldThenTake, .takeFirst].map early = [.host, .host, .applier, .applier]
      ∧ (after .applierTakeEntry (after (.memoryAccessComplete .ok .takeFirst) s)).host.phase = .waiting := by
  decide +kernel

/-- R38, R52: a held write that is left to the take is decoded after the take's grant: it takes the freed slot, and where
its address has become OPEN its request waits. -/
theorem test_take_before_held_write :
    (let t := after .applierTakeEntry leftToTake;
      (t.host.phase, (t.slot 0).state, (t.slot 0).home, t.port.lastGranted)
        = (.answered, .filling, some 0x150, .applier))
    ∧ (let t := after .applierTakeEntry (leftToTake.setTable { exTable with entries := RegionTable.noEntries });
      (t.host.phase, t.port.lastGranted) = (.waiting, .applier)) := by decide +kernel

/-- AnchorWriteFreesEntry: the readback of the anchor mark of copy A, without and with a write in the slot hold, with it
and a second entry to take, and with nothing held behind the entry. -/
theorem test_witness_AnchorWriteFreesEntry :
    (heldWrite.host.phase = .holding ∧ heldWrite.host.hold = some .slot ∧ heldWrite.host.kind = .write
      ∧ heldWrite.ctrl.opState = .running ∧ heldWrite.port = (anchoring 536 2012 536 536).port
      ∧ heldWrite.pending.head? ≠ some .storeProfile ∧ heldWrite.applier.phase = .anchor ∧ heldWrite.applier.idx = 32
      ∧ (heldWrite.journal.live.head?.map fun e => e.group.slots) = some [0])
    ∧ (let s := heldTwo.setPending [.applierTakeEntry];
      s.host.phase = .holding ∧ s.host.hold = some .slot ∧ s.host.kind = .write ∧ s.ctrl.opState = .running
        ∧ s.pending.head? = some .applierTakeEntry ∧ s.port = (anchoring 536 2012 536 536).port
        ∧ s.journal.live.tail ≠ [])
    ∧ (let s := anchoring 536 536 536 536;
      let g := { s.journal with tail := 1072 };
      (g.head ≤ 2048 ∧ g.tail ≤ 2048 ∧ g.held ≤ 2048 ∧ (g.head + g.held) % 2048 = g.tail % 2048)
        ∧ s.journalLength = 2048 ∧ (g.live.map fun e => e.pos + e.length) = [g.tail]) ∧
    let s := anchoring 536 2012 536 536;
    s.supply = true ∧ s.port.inFlight = some { owner := .requester .applier, addr := 0x1F780, op := .read }
      ∧ 0x1F780 < memorySize s.ctrl.straps ∧ s.applier.phase = .anchor ∧ s.applier.idx = 32
      ∧ s.mem.read 0x1F780 = 0x4C ∧ s.journal.live.length = 1 ∧ s.host.hold ≠ some .slot := by decide +kernel

/-- A part in RECOVERING with its read of an address in flight. -/
def recovering (r : Recovery) (addr : Nat) : State :=
  flying .system addr .read ((part .recovering).setCtrl { (part .recovering).ctrl with recovery := r })

/-- RecoveryChoosesAndEnds: the last anchor byte over an empty memory; a valid copy A; a scan that reads 00h. -/
theorem test_witness_RecoveryChoosesAndEnds :
    (let s := recovering { Recovery.begin with buf := List.replicate 31 0 } 0x1F79F;
      s.supply = true ∧ s.ctrl.opState = .recovering
        ∧ s.port.inFlight = some { owner := .system, addr := 0x1F79F, op := .read }
        ∧ 0x1F79F < memorySize s.ctrl.straps ∧ s.host.phase = .idle ∧ s.ctrl.recovery.phase = .anchors
        ∧ s.ctrl.recovery.buf.length = 31 ∧ s.ctrl.straps.afmt = false
        ∧ chooseAnchor (readAnchor straps (List.replicate 16 0)) (readAnchor straps (List.replicate 16 0)) = none)
      ∧ (let s := recovering
            { Recovery.begin with buf := 0x4C :: anchorBody 1 2048 7 ++ List.replicate 15 0 } 0x1F79F;
        s.ctrl.recovery.buf.length = 31 ∧ s.ctrl.recovery.advance = 0
          ∧ chooseAnchor (readAnchor straps (s.ctrl.recovery.buf.take 16)) none
            = some (.a, { generation := 1, head := 2048, next := 7 }))
      ∧ (let s := recovering { Recovery.begin with phase := .scan, p := 2047, replays := 255 } 0x1FFFF;
        s.ctrl.recovery.phase = .scan ∧ s.ctrl.recovery.buf = []
          ∧ s.mem.read 0x1FFFF ∉ [(0xA5 : Byte), 0x5A, 0xC3] ∧ s.ctrl.recovery.p < s.journalLength
          ∧ s.ctrl.recovery.replays ≤ 255 ∧ s.ctrl.recovery.firstFaults ≤ 255) := by decide +kernel

/-- A part in INITLOAD or RELOADING that has read 71 bytes of the profile block. -/
def loading (o : OpState) (bytes : List Byte) : State :=
  flying .system 0x1F7E7 .read ((part o).setCtrl { (part o).ctrl with loader := bytes })

/-- ProfileLoadSetsLiveValues: the stored worked table, a bad block, and a read in the reload hold. -/
theorem test_witness_ProfileLoadSetsLiveValues :
    (let s := loading .initload ((profileImage 7 .openClass 0xFFFF exTable.entries).take 71);
      s.supply = true ∧ s.ctrl.opState ∈ [OpState.initload, .reloading]
        ∧ s.port.inFlight = some { owner := .system, addr := 0x1F7E7, op := .read }
        ∧ 0x1F7E7 < memorySize s.ctrl.straps ∧ s.ctrl.loader.length = 71 ∧ s.host.phase ≠ .holding
        ∧ (∀ i : Fin 8, s.table.entries[i] = RegionEntry.invalid)
        ∧ profileGood (s.ctrl.loader ++ [0x00]) = true)
      ∧ (let s := loading .reloading (List.replicate 71 0);
        s.ctrl.opState ∈ [OpState.initload, .reloading] ∧ s.ctrl.loader.length = 71
          ∧ profileGood (s.ctrl.loader ++ [0x00]) = false)
      ∧ (let s := didRead 0x300 (loading .reloading (List.replicate 71 0));
        s.port.inFlight = some { owner := .system, addr := 0x1F7E7, op := .read } ∧ s.host.phase = .holding
          ∧ s.host.hold ∈ [some HoldKind.startUp, some .reload] ∧ s.host.fate = .awaited ∧ s.host.hd = none
          ∧ s.pins.srst = false) := by decide +kernel

/-- EventArrivesByTheTable: 14 records, 15 without and with an OVERFLOW, and 16. -/
theorem test_witness_EventArrivesByTheTable :
    ∀ q ∈ [fullEvents.queue.take 14, fullEvents.queue.take 15, fullEvents.queue.drop 1, fullEvents.queue],
      let e : EventBlock := { queue := q, serial := 16, alert := true };
      e.queue.length ≤ 16 ∧ (e.queue.countP fun r => r.report.kind == .overflow) ≤ 1
        ∧ (e.queue.length = 16 → e.hasOverflow = true) := by decide +kernel

/-- TransactionsBeginAndEnd: an IDLE port, a BLOCKED one, FROZEN, and the results of GET MASK and TAKE. -/
theorem test_witness_TransactionsBeginAndEnd :
    (running.supply = true ∧ running.pins.scsLow = false ∧ running.mgmt.phase = .idle)
      ∧ (after (.pfailAssert .ok) running).mgmt.phase = .blocked
      ∧ (asked running).ctrl.opState ≠ .frozen ∧ (part .frozen).ctrl.opState = .frozen
      ∧ running.pending = []
      ∧ ∀ c ∈ [Instr.getMask, .take],
        let m := (after c (asked running)).mgmt;
        m.phase = .result ∧ m.bitPos = 0 ∧ m.bytePos = m.params.length + 1
          ∧ (m.command = some .take ↔ c = .take) ∧ m.command ≠ some .report := by decide +kernel

/-- CommandCodesDecodeOrAreBad: an unknown code, a known one, and a transaction that awaits its command. -/
theorem test_witness_CommandCodesDecodeOrAreBad :
    commandOfByte 0xEE = none ∧ commandOfByte 0x41 = some .discardHeld
      ∧ (asked running).awaitsCommand = true := by decide +kernel

/-- CommandNotAcceptedChangesNothing: FORMAT in RUNNING, in a transaction and without one; a MASK from PARAMETERS and
with one byte; and the refusing states. -/
theorem test_witness_CommandNotAcceptedChangesNothing :
    (Instr.format.mgmt = some (.format, []) ∧ (asked running).awaits .format [] = true
        ∧ MgmtCommand.format.accepted (asked running).ctrl.opState (asked running).ctrl.format.isSome = false
        ∧ running.awaits .format [] = false)
      ∧ ((Instr.mask (some 0xFF) (some 0x7F)).mgmt = some (.mask, [0xFF, 0x7F])
        ∧ (after (.mask (some 0xFF) none) (asked running)).awaits .mask [0xFF, 0x7F] = true)
      ∧ ((Instr.mask (some 0xFF) none).partway = some (.mask, [0xFF])
        ∧ (asked running).awaits .mask [0xFF] = true ∧ running.awaits .mask [0xFF] = false)
      ∧ ((asked (part .reloading)).awaitsCommand = true
        ∧ (asked (part .reloading)).ctrl.opState ∉ [OpState.running, .faulted]
        ∧ (asked (part .reloading)).ctrl.opState ≠ .running)
      ∧ (let s := (part .locked).setCtrl { (part .locked).ctrl with format := some 5 };
        (asked s).awaitsCommand = true ∧ s.ctrl.format ≠ none) := by decide +kernel

/-- StatusAndReportAnswerSnapshots: a transaction in every state but FROZEN. -/
theorem test_witness_StatusAndReportAnswerSnapshots :
    ∀ o ∈ [OpState.starting, .recovering, .initload, .running, .reloading, .locked, .faulted],
      (asked (part o)).awaitsCommand = true := by decide +kernel

/-- ConfigurationReadsChangeNothing: RUNNING and RECOVERING, the greatest index and the first value past it. -/
theorem test_witness_ConfigurationReadsChangeNothing :
    ((asked running).awaitsCommand = true
        ∧ (asked running).ctrl.opState ∈ [OpState.running, .reloading, .locked, .faulted])
      ∧ ((asked (part .recovering)).awaitsCommand = true
        ∧ (asked (part .recovering)).ctrl.opState ∈ [OpState.starting, .recovering, .initload])
      ∧ (0x07 : Byte).toNat = (7 : Fin 8).val ∧ 8 ≤ (0x08 : Byte).toNat := by decide +kernel

/-- PeekLeavesTheQueue: a queue with records and an empty one. -/
theorem test_witness_PeekLeavesTheQueue :
    ((asked (running.setEvents fullEvents)).awaitsCommand = true
        ∧ (asked (running.setEvents fullEvents)).events.queue ≠ [])
      ∧ (asked running).awaitsCommand = true ∧ (asked running).events.queue = [] := by decide +kernel

/-- ConsumptionWaitsForLastByte: a TAKE of a record, one of an OVERFLOW that grew, one that was EMPTY, and REPORT. -/
theorem test_witness_ConsumptionWaitsForLastByte :
    (let s := after .take (asked (running.setEvents fullEvents));
      s.supply = true ∧ s.ctrl.opState ≠ .frozen ∧ s.mgmt.phase = .result ∧ s.mgmt.command = some .take
        ∧ s.mgmt.status = 0x00 ∧ s.events.queue.length = 16
        ∧ s.events.queue.head?.map (·.report.kind) ≠ some .overflow)
      ∧ (let e : EventBlock := { queue := [{ report := EventReport.overflow 1, serial := 0 }], serial := 1, alert := true };
        let s := (after .take (asked (running.setEvents e))).setEvents
          { e with queue := [{ report := EventReport.overflow 255, serial := 0 }] };
        s.mgmt.response = ({ report := EventReport.overflow 1, serial := 0 } : EventRecord).bytes
          ∧ (EventReport.overflow 1).count ≠ (EventReport.overflow 255).count)
      ∧ (after .take (asked running)).mgmt.status = 0x01
      ∧ (let s := after .report (asked running);
        s.mgmt.phase = .result ∧ s.mgmt.command = some .report ∧ s.mgmt.stale = false)
      ∧ (let s := after .report (asked running);
        (s.setMgmt { s.mgmt with stale := true }).mgmt.stale = true) := by decide +kernel

/-- PutRegionChecksInOrder: the legal worked table; an entry that passes; one that fails checks 1 and 4; one that fails
check 4 alone; BUSY_LIVE; TRIGGER_IN_USE. -/
theorem test_witness_PutRegionChecksInOrder :
    (asked running).awaitsCommand = true ∧ (asked running).ctrl.opState ∈ [OpState.running, .faulted]
      ∧ (asked running).tableLegal ∧ (asked heldThree).tableLegal
      ∧ (let e := rawEntry entry4;
        e.valid = true ∧ e.cls = 1 ∧ e.limit < running.base ∧ e.follows = 2 ∧ (asked running).putStatus 4 e = .ok)
      ∧ (let e := rawEntry { entry4 with b0 := 0xA1, b3 := 0x21, b4 := 0xF7, b5 := 0x80 };
        running.base ≤ e.limit ∧ (asked running).putStatus 4 e = .badArg)
      ∧ (let e := rawEntry { entry4 with b1 := 0x05, b4 := 0x05 };
        running.table.entries[(3 : Fin 8)].covers e.base = true ∧ (asked running).putStatus 4 e = .overlap)
      ∧ (asked heldThree).putStatus 2 (rawEntry { entry4 with b0 := 0x00 }) = .busyLive
      ∧ (asked running).putStatus 2 (rawEntry { entry4 with b0 := 0x00 }) = .triggerInUse
      ∧ 8 ≤ (0x08 : Byte).toNat :=
  ⟨by decide +kernel, by decide +kernel, legal_of_exTable rfl rfl (by decide),
    legal_of_exTable rfl rfl (by decide), by decide +kernel⟩

/-- MaskAndDefaultTakeEffect: RUNNING, and a code that names neither class. -/
theorem test_witness_MaskAndDefaultTakeEffect :
    (asked running).awaitsCommand = true ∧ (asked running).ctrl.opState ∈ [OpState.running, .faulted]
      ∧ (0x01 : Byte) ≠ 0x00 ∧ (0x01 : Byte) ≠ 0x02 := by decide +kernel

/-- StoreProfileQueuesImage: slot 3 is the lowest FREE slot, a full store, FAULTED, and slot 0 alone FREE with a write in
the slot hold. -/
theorem test_witness_StoreProfileQueuesImage :
    ((asked heldThree).awaitsCommand = true ∧ (asked heldThree).ctrl.opState = .running
        ∧ ((asked heldThree).slot 3).state = .free
        ∧ (∀ k : Fin 8, k < 3 → ((asked heldThree).slot k).state ≠ .free)
        ∧ (asked heldThree).host.hold ≠ some .slot)
      ∧ ((asked (part .faulted)).awaitsCommand = true ∧ (asked (part .faulted)).ctrl.opState ≠ .running)
      ∧ ((asked (fullStore .filling)).awaitsCommand = true
        ∧ ∀ k : Fin 8, ((asked (fullStore .filling)).slot k).state ≠ .free)
      ∧ (let s := after (.memoryAccessComplete .ok .otherFirst) ((asked heldWrite).setPending [.storeProfile]);
        s.awaitsCommand = true ∧ (s.slot 0).state = .free ∧ (∀ k : Fin 8, k ≠ 0 → (s.slot k).state ≠ .free)
          ∧ s.ctrl.opState = .running ∧ s.host.phase = .holding ∧ s.host.hold = some .slot ∧ s.host.kind = .write
          ∧ (s.lookup s.host.addr.toNat).ref
            = some { ref100 2 with home := 0x150 }
          ∧ ∀ k : Fin 8, (s.slot k).state = .filling → (s.slot k).ofRecord 0 0x150 = false) := by decide +kernel

/-- LoadProfileAndFormatBegin: every slot FREE, a live slot, and LOCKED without a format. -/
theorem test_witness_LoadProfileAndFormatBegin :
    ((asked running).awaitsCommand = true ∧ (asked running).ctrl.opState = .running
        ∧ (∀ i : Fin 8, ((asked running).slot i).state = .free) ∧ (asked running).port.inFlight = none
        ∧ (asked running).host.phase ≠ .waiting)
      ∧ (∃ i : Fin 8, ((asked heldThree).slot i).state ≠ .free)
      ∧ ((asked (part .locked)).awaitsCommand = true ∧ (asked (part .locked)).ctrl.opState = .locked
        ∧ (asked (part .locked)).ctrl.format = none ∧ (asked (part .locked)).port.inFlight = none) := by
  decide +kernel

/-- FAULTED with the Writer's readback of the mark at offset 0 still in flight, and an unequal byte there. -/
def faultedBusy : State :=
  let s := writing .mark 1 0 0x1F800 0x24
  asked (s.setCtrl { s.ctrl with opState := .faulted, cause := .apply })

/-- R124, R127: RESUME with that readback in flight: it compares unequal without an event, and the Writer then begins
WRITE with CLEARED at p, 1F800h. -/
theorem test_resume_with_access_in_flight :
    let t := after (.memoryAccessComplete .ok .heldFirst) (after .resume faultedBusy)
    (t.writer.phase, t.writer.idx, t.writer.retry, t.writer.resuming, t.events.queue) = (.write, 0, 0, false, [])
      ∧ t.port.inFlight = some { owner := .requester .writer, addr := 0x1F800, op := .write 0x00 } := by
  decide +kernel

/-- ResumeRestartsEngines: FAULTED with the Writer in MARK and the Applier in ANCHOR, after each cause; RUNNING; an access
of the Writer's and of the Applier's in flight at RESUME; and their completions after it. -/
theorem test_witness_ResumeRestartsEngines :
    (let s := asked ((part .faulted).setWriter (writing .mark 1 1 0 1).writer);
      s.awaitsCommand = true ∧ s.ctrl.opState = .faulted ∧ s.port.inFlight = none
        ∧ s.writer.phase ∈ [WriterPhase.write, .verify, .mark]
        ∧ (anchoring 536 2012 536 536).applier.phase ∈ [ApplierPhase.retire, .anchor]
        ∧ (s.setCtrl { s.ctrl with cause := .recovery }).ctrl.cause = .recovery
        ∧ ((asked running).awaitsCommand = true ∧ (asked running).ctrl.opState ≠ .faulted))
      ∧ (faultedBusy.awaitsCommand = true ∧ faultedBusy.ctrl.opState = .faulted
        ∧ faultedBusy.port.inFlight = some { owner := .requester .writer, addr := 0x1F800, op := .read })
      ∧ (let s := after .resume faultedBusy;
        s.supply = true ∧ s.port.inFlight = some { owner := .requester .writer, addr := 0x1F800, op := .read }
          ∧ 0x1F800 < memorySize s.ctrl.straps ∧ s.host.hold ≠ some .slot ∧ s.writer.phase = .mark
          ∧ s.writer.resuming = true
          ∧ s.writerProgram[s.writer.idx]? = some { addr := 0x1F800, byte := 0xA5, verify := true }
          ∧ s.mem.read 0x1F800 ≠ 0xA5)
      ∧ (let s := applying .home 0;
        let t := after .resume (asked (s.setCtrl { s.ctrl with opState := .faulted, cause := .journal }));
        t.port.inFlight = some { owner := .requester .applier, addr := 0x100, op := .read }
          ∧ t.applier.phase = .home ∧ t.applier.resuming = true
          ∧ t.applierProgram[t.applier.idx]? = some { addr := 0x100, byte := 0x55, verify := true }
          ∧ t.applier.idx + 1 < t.applierProgram.length) := by decide +kernel

/-- DiscardHeldFreesList: region 2 with three slots, region 7 with none, and an index above 7. -/
theorem test_witness_DiscardHeldFreesList :
    (asked heldThree).awaitsCommand = true ∧ (asked heldThree).ctrl.opState ∈ [OpState.running, .faulted]
      ∧ (0x02 : Byte).toNat = (2 : Fin 8).val ∧ (0x07 : Byte).toNat = (7 : Fin 8).val
      ∧ (asked heldThree).host.hold ≠ some .slot ∧ (asked heldThree).stage.held[(2 : Fin 8)] ≠ []
      ∧ (asked heldThree).stage.held[(7 : Fin 8)] = [] ∧ 8 ≤ (0x08 : Byte).toNat
      ∧ ((asked heldWrite).awaitsCommand = true ∧ (asked heldWrite).ctrl.opState = .running
        ∧ (asked heldWrite).host.phase = .holding ∧ (asked heldWrite).host.hold = some .slot
        ∧ (asked heldWrite).host.kind = .write ∧ (asked heldWrite).stage.held[(2 : Fin 8)] ≠ []) := by decide +kernel

end Sys2Proof.Tests
end

section
/-! SUPPORT. The region table stays legal (R2): what a legal table is and which single entry may be replaced in it (R10 to R15),
how far each operation can change the table (R16, R18, R19, R163), and the step lemma of the invariant. -/

namespace Sys2Proof.Machine

/-! ## Entries -/

/-- R8: what it takes for an entry to hold an address. -/
theorem RegionEntry.covers_iff {e : RegionEntry} {a : Nat} :
    e.covers a = true ↔ e.valid = true ∧ e.base.toNat ≤ a ∧ a ≤ e.limit.toNat := by
  simp [RegionEntry.covers, and_assoc]

/-- An invalid entry is in form, whatever the hidden area. -/
theorem RegionEntry.invalid_normal (base : Nat) : RegionEntry.invalid.normal base := by
  simp [RegionEntry.normal, RegionEntry.invalid]

/-- R1, R2: the range of a valid entry in form. -/
theorem RegionEntry.normal.range {e : RegionEntry} {base : Nat} (h : e.normal base) (hv : e.valid = true) :
    e.base.toNat ≤ e.limit.toNat ∧ e.limit.toNat < base := by
  rw [RegionEntry.normal, if_pos hv] at h
  exact ⟨h.1, h.2.1⟩

/-- Every entry of the empty table. -/
theorem RegionTable.noEntries_get (i : Fin 8) : RegionTable.noEntries[i] = RegionEntry.invalid := by
  simp [RegionTable.noEntries]

/-- The entry that is replaced. -/
theorem RegionTable.set_same (entries : Vector RegionEntry 8) (i : Fin 8) (x : RegionEntry) :
    (entries.set i x)[i] = x := by
  simp

/-- Every other entry. -/
theorem RegionTable.set_other (entries : Vector RegionEntry 8) {i k : Fin 8} (x : RegionEntry) (h : k ≠ i) :
    (entries.set i x)[k] = entries[k] := by
  simp only [Fin.getElem_fin, Vector.getElem_set]
  rw [if_neg fun q => h (Fin.ext q.symm)]

/-- R7: an entry is followed when another valid entry names it. -/
theorem RegionTable.followed_iff {entries : Vector RegionEntry 8} {i : Fin 8} :
    RegionTable.followed entries i = true
      ↔ ∃ k, k ≠ i ∧ entries[k].valid = true ∧ entries[k].follows = some i := by
  simp [RegionTable.followed, and_assoc]

/-! ## Legal tables -/

/-- R1, R2, R7: the entries of a legal table below a hidden area at `base`. -/
structure RegionTable.Legal (entries : Vector RegionEntry 8) (base : Nat) : Prop where
  normal : ∀ i : Fin 8, entries[i].normal base
  disjoint : RegionTable.disjoint entries
  linked : RegionTable.linked entries

/-- The invariant is that the entries are legal, and all invalid until a load ends. -/
theorem State.tableLegal_iff {s : State} :
    s.tableLegal ↔ RegionTable.Legal s.table.entries s.base ∧ s.tableEmptyUntilLoaded :=
  ⟨fun ⟨hn, hd, hl, he⟩ => ⟨⟨hn, hd, hl⟩, he⟩, fun ⟨⟨hn, hd, hl⟩, he⟩ => ⟨hn, hd, hl, he⟩⟩

/-- The empty table is legal. -/
theorem RegionTable.legal_noEntries (base : Nat) : RegionTable.Legal RegionTable.noEntries base where
  normal i := by rw [RegionTable.noEntries_get]; exact RegionEntry.invalid_normal base
  disjoint i j a _ _ := by rw [RegionTable.noEntries_get]; rfl
  linked i t hv _ := by rw [RegionTable.noEntries_get] at hv; cases hv

/-- In a legal table only a valid entry is followed. -/
theorem RegionTable.Legal.not_followed {entries : Vector RegionEntry 8} {base : Nat} {i : Fin 8}
    (h : RegionTable.Legal entries base) (hi : entries[i].valid = false) :
    RegionTable.followed entries i = false := by
  rw [Bool.eq_false_iff]
  intro hf
  obtain ⟨k, _, hv, hk⟩ := RegionTable.followed_iff.1 hf
  obtain ⟨_, hi', _⟩ := h.linked k i hv hk
  rw [hi'] at hi
  cases hi

/-- A legal table stays legal when one entry is replaced by another in form that meets no other entry's range, follows only
what may be followed, and can itself be followed if the old one was. -/
theorem RegionTable.Legal.set {entries : Vector RegionEntry 8} {base : Nat} {i : Fin 8} {x : RegionEntry}
    (h : RegionTable.Legal entries base) (hn : x.normal base)
    (hd : ∀ k a, k ≠ i → x.covers a = true → entries[k].covers a = false)
    (hl : ∀ t, x.valid = true → x.follows = some t →
      t ≠ i ∧ entries[t].valid = true ∧ entries[t].cls = .record ∧ entries[t].follows = none)
    (hf : RegionTable.followed entries i = true → x.valid = true ∧ x.cls = .record ∧ x.follows = none) :
    RegionTable.Legal (entries.set i x) base where
  normal k := by
    by_cases hk : k = i
    · subst hk
      rwa [RegionTable.set_same]
    · rw [RegionTable.set_other _ _ hk]
      exact h.normal k
  disjoint j k a hjk hc := by
    by_cases hj : j = i
    · subst hj
      rw [RegionTable.set_same] at hc
      rw [RegionTable.set_other _ _ hjk.symm]
      exact hd k a hjk.symm hc
    · rw [RegionTable.set_other _ _ hj] at hc
      by_cases hk : k = i
      · subst hk
        rw [RegionTable.set_same, Bool.eq_false_iff]
        intro hx
        rw [hd j a hj hx] at hc
        cases hc
      · rw [RegionTable.set_other _ _ hk]
        exact h.disjoint j k a hjk hc
  linked j t hv hjt := by
    by_cases hj : j = i
    · subst hj
      rw [RegionTable.set_same] at hv hjt
      obtain ⟨hne, ht⟩ := hl t hv hjt
      rw [RegionTable.set_other _ _ hne]
      exact ⟨hne, ht⟩
    · rw [RegionTable.set_other _ _ hj] at hv hjt
      obtain ⟨hne, ht⟩ := h.linked j t hv hjt
      by_cases hti : t = i
      · subst hti
        rw [RegionTable.set_same]
        exact ⟨hne, hf (RegionTable.followed_iff.2 ⟨j, hj, hv, hjt⟩)⟩
      · rw [RegionTable.set_other _ _ hti]
        exact ⟨hne, ht⟩

/-- A legal table stays legal when an entry that is not followed becomes invalid. -/
theorem RegionTable.Legal.set_invalid {entries : Vector RegionEntry 8} {base : Nat} {i : Fin 8}
    (h : RegionTable.Legal entries base) (hf : RegionTable.followed entries i = false) :
    RegionTable.Legal (entries.set i RegionEntry.invalid) base :=
  h.set (RegionEntry.invalid_normal base) (fun _ _ _ hc => nomatch hc) (fun _ hv _ => nomatch hv)
    fun hf' => by rw [hf] at hf'; cases hf'

/-! ## The checks of an entry (R10 to R15) -/

/-- R10: an entry that passes the checks 1 to 4 passes 1 and 4, and as a RECORD 2 and 3. -/
theorem RawEntry.firstFailing_none {e : RawEntry} {entries : Vector RegionEntry 8} {base : Nat} {i : Fin 8}
    (h : e.firstFailing entries base i = none) :
    e.check1 base = true ∧ e.check4 entries i = true
      ∧ (regionClassOfCode e.cls = some .record → e.check2 = true ∧ e.check3 entries i = true) := by
  unfold RawEntry.firstFailing at h
  dsimp only at h
  split_ifs at h with h1 h2 h3 h4
  simp_all

/-- Check 1 (R11): a class, a range within the 19 address lines, and below the hidden area. -/
theorem RawEntry.check1_iff {e : RawEntry} {base : Nat} :
    e.check1 base = true ↔ (∃ c, regionClassOfCode e.cls = some c) ∧ e.base < 524288 ∧ e.limit < 524288
      ∧ e.base ≤ e.limit ∧ e.limit < base := by
  simp [RawEntry.check1, Option.isSome_iff_exists, and_assoc]

/-- Check 2 (R11). -/
theorem RawEntry.check2_iff {e : RawEntry} :
    e.check2 = true ↔ 2 ≤ e.rsize ∧ e.rsize ≤ 128 ∧ (e.limit - e.base + 1) % e.rsize = 0
      ∧ e.commit < e.rsize := by
  simp [RawEntry.check2, and_assoc]

/-- Check 3 (R12): the entry follows none; or it follows another valid RECORD entry that itself follows none, and is not
followed. -/
theorem RawEntry.check3_cases {e : RawEntry} {entries : Vector RegionEntry 8} {i : Fin 8}
    (h : e.check3 entries i = true) :
    followsOfCode e.follows = none
      ∨ ∃ t, followsOfCode e.follows = some t ∧ t ≠ i ∧ entries[t].valid = true ∧ entries[t].cls = .record
          ∧ entries[t].follows = none ∧ RegionTable.followed entries i = false := by
  unfold RawEntry.check3 at h
  split_ifs at h with h15 h8
  · left
    rw [followsOfCode, dif_neg (by omega)]
  · refine .inr ⟨⟨e.follows.toNat, h8⟩, dif_pos h8, ?_⟩
    simpa [and_assoc] using h

/-- Check 4 (R13): the range meets that of no valid entry at another index. -/
theorem RawEntry.check4_iff {e : RawEntry} {entries : Vector RegionEntry 8} {i : Fin 8} :
    e.check4 entries i = true ↔ ∀ k, k ≠ i → entries[k].valid = true →
      e.limit < entries[k].base.toNat ∨ entries[k].limit.toNat < e.base := by
  simp only [RawEntry.check4, List.all_eq_true, mem_indices8, forall_const, Bool.or_eq_true, beq_iff_eq,
    Bool.not_eq_true', decide_eq_true_eq, or_assoc]
  refine forall_congr' fun k => ?_
  cases entries[k].valid <;> simp [or_iff_not_imp_left]

/-! ## The entry in the form the table keeps (R16) -/

/-- An address on the 19 lines keeps a number that fits them. -/
theorem toNat_toAddr {n : Nat} (h : n < 524288) : (toAddr n).toNat = n := by
  simp [toAddr, Nat.mod_eq_of_lt h]

/-- R1: a valid RECORD entry keeps every field. -/
theorem RawEntry.stored_record {e : RawEntry} (hv : e.valid = true) (hc : regionClassOfCode e.cls = some .record) :
    e.stored =
      { valid := true, cls := .record, base := toAddr e.base, limit := toAddr e.limit, rsize := e.rsize,
        commit := e.commit, follows := followsOfCode e.follows } := by
  simp [RawEntry.stored, hv, hc]

/-- R1: a valid entry of another class keeps its class and range. -/
theorem RawEntry.stored_plain {e : RawEntry} {c : RegionClass} (hv : e.valid = true)
    (hc : regionClassOfCode e.cls = some c) (hr : c ≠ .record) :
    e.stored =
      { valid := true, cls := c, base := toAddr e.base, limit := toAddr e.limit, rsize := 0, commit := 0,
        follows := none } := by
  cases c <;> simp_all [RawEntry.stored]

/-- R16: an entry that is not valid is stored as the invalid one. -/
theorem RawEntry.stored_invalid {e : RawEntry} (hv : e.valid = false) : e.stored = RegionEntry.invalid := by
  simp [RawEntry.stored, hv]

/-- The validity, class and range of the stored form of a valid entry that passes check 1. -/
theorem RawEntry.stored_range {e : RawEntry} {base : Nat} (hv : e.valid = true) (h1 : e.check1 base = true) :
    e.stored.valid = true ∧ regionClassOfCode e.cls = some e.stored.cls
      ∧ e.stored.base.toNat = e.base ∧ e.stored.limit.toNat = e.limit := by
  obtain ⟨⟨c, hc⟩, hb, hl, -, -⟩ := RawEntry.check1_iff.1 h1
  by_cases hr : c = .record
  · subst hr
    rw [RawEntry.stored_record hv hc]
    exact ⟨rfl, hc, toNat_toAddr hb, toNat_toAddr hl⟩
  · rw [RawEntry.stored_plain hv hc hr]
    exact ⟨rfl, hc, toNat_toAddr hb, toNat_toAddr hl⟩

/-- R1, R11: a valid entry that passes checks 1 and 2 is stored in form. -/
theorem RawEntry.stored_normal {e : RawEntry} {base : Nat} (hv : e.valid = true) (h1 : e.check1 base = true)
    (h2 : regionClassOfCode e.cls = some .record → e.check2 = true) : e.stored.normal base := by
  obtain ⟨hs, -, hb, hl⟩ := RawEntry.stored_range hv h1
  obtain ⟨⟨c, hc⟩, -, -, hle, hlt⟩ := RawEntry.check1_iff.1 h1
  rw [RegionEntry.normal, if_pos hs, hb, hl]
  refine ⟨hle, hlt, ?_⟩
  by_cases hr : c = .record
  · subst hr
    rw [RawEntry.stored_record hv hc]
    exact ⟨fun _ => RawEntry.check2_iff.1 (h2 hc), fun hne => absurd rfl hne⟩
  · rw [RawEntry.stored_plain hv hc hr]
    exact ⟨fun he => absurd he hr, fun _ => ⟨rfl, rfl, rfl⟩⟩

/-- R12: what the stored form of an entry that passes check 3 as a RECORD follows. -/
theorem RawEntry.stored_follows {e : RawEntry} {entries : Vector RegionEntry 8} {base : Nat} {i : Fin 8}
    (hv : e.valid = true) (h1 : e.check1 base = true)
    (h3 : regionClassOfCode e.cls = some .record → e.check3 entries i = true) :
    e.stored.follows = none
      ∨ ∃ t, e.stored.follows = some t ∧ t ≠ i ∧ entries[t].valid = true ∧ entries[t].cls = .record
          ∧ entries[t].follows = none ∧ RegionTable.followed entries i = false := by
  obtain ⟨⟨c, hc⟩, -⟩ := RawEntry.check1_iff.1 h1
  by_cases hr : c = .record
  · subst hr
    rw [RawEntry.stored_record hv hc]
    exact RawEntry.check3_cases (h3 hc)
  · rw [RawEntry.stored_plain hv hc hr]
    exact .inl rfl

/-- R10 to R15: a valid entry that passes the checks 1 to 4 can be stored in a legal table, if it is a RECORD wherever the
old entry is followed. -/
theorem RegionTable.Legal.set_stored {entries : Vector RegionEntry 8} {base : Nat} {i : Fin 8} {e : RawEntry}
    (h : RegionTable.Legal entries base) (hv : e.valid = true) (hp : e.firstFailing entries base i = none)
    (hf : RegionTable.followed entries i = true → e.stored.cls = .record) :
    RegionTable.Legal (entries.set i e.stored) base := by
  obtain ⟨h1, h4, h23⟩ := RawEntry.firstFailing_none hp
  obtain ⟨hs, -, hb, hl⟩ := RawEntry.stored_range hv h1
  have hfol := RawEntry.stored_follows hv h1 fun hc => (h23 hc).2
  refine h.set (RawEntry.stored_normal hv h1 fun hc => (h23 hc).1) ?_ ?_ ?_
  · intro k a hk hx
    rw [Bool.eq_false_iff]
    intro hka
    obtain ⟨-, hxb, hxl⟩ := RegionEntry.covers_iff.1 hx
    obtain ⟨hkv, hkb, hkl⟩ := RegionEntry.covers_iff.1 hka
    rcases RawEntry.check4_iff.1 h4 k hk hkv with hlt | hlt <;> omega
  · intro t _ ht
    rcases hfol with hnone | ⟨t', ht', hne, hval, hcls, hfn, -⟩
    · rw [hnone] at ht
      cases ht
    · obtain rfl : t' = t := Option.some.inj (ht'.symm.trans ht)
      exact ⟨hne, hval, hcls, hfn⟩
  · intro hfd
    rcases hfol with hnone | ⟨t, -, -, -, -, -, hnf⟩
    · exact ⟨hs, hf hfd, hnone⟩
    · rw [hnf] at hfd
      cases hfd

/-- R10: a PUT REGION that is answered OK writes an invalid entry over one that is not followed, or a valid entry that passes
the checks 1 to 4 and is a RECORD wherever the old one is followed. -/
theorem State.putStatus_ok {s : State} {i : Fin 8} {e : RawEntry} (h : s.putStatus i e = .ok) :
    (e.valid = false ∧ RegionTable.followed s.table.entries i = false)
      ∨ (e.valid = true ∧ e.firstFailing s.table.entries s.base i = none
          ∧ (RegionTable.followed s.table.entries i = true → e.stored.cls = .record)) := by
  unfold State.putStatus at h
  dsimp only at h
  split at h
  · unfold checkStatus at h
    split at h <;> cases h
  · rename_i hearly
    split_ifs at h with _ hdist
    rw [Bool.not_eq_true, RawEntry.disturbs] at hdist
    cases hv : e.valid with
    | false => exact .inl ⟨rfl, by simpa [hv] using hdist⟩
    | true =>
      rw [if_pos hv] at hearly
      refine .inr ⟨rfl, hearly, fun hf => ?_⟩
      by_contra hne
      simp [hf, hne] at hdist

/-- R10 to R16: the write of a PUT REGION that is answered OK keeps the entries legal. -/
theorem RegionTable.Legal.put {s : State} {i : Fin 8} {e : RawEntry}
    (h : RegionTable.Legal s.table.entries s.base) (hok : s.putStatus i e = .ok) :
    RegionTable.Legal (s.table.entries.set i e.stored) s.base := by
  rcases State.putStatus_ok hok with ⟨hv, hf⟩ | ⟨hv, hp, hf⟩
  · rw [RawEntry.stored_invalid hv]
    exact h.set_invalid hf
  · exact h.set_stored hv hp hf

end Sys2Proof.Machine
end

section
/-! SUPPORT. How far each operation can change the region table: not at all, by emptying it, or by a load (R18, R19, R163). -/

namespace Sys2Proof.Machine

/-! ## Steps that spare the table -/

/-- R18, R19: the operating states in which every entry is invalid. -/
def OpState.unloaded (o : OpState) : Prop :=
  o ∈ [OpState.starting, .recovering, .initload, .reloading, .locked]

/-- From `s` to `t` the table is emptied; or the entries and the straps stay, and the part comes from a state with an empty
table if it is in one. -/
def State.sparesTable (s t : State) : Prop :=
  t.table.entries = RegionTable.noEntries
    ∨ (t.table.entries = s.table.entries ∧ t.ctrl.straps = s.ctrl.straps
        ∧ (t.ctrl.opState.unloaded → s.ctrl.opState.unloaded))

/-- A change of other fields. -/
theorem State.sparesTable_of_eq {s t : State} (ht : t.table = s.table) (hc : t.ctrl = s.ctrl) :
    s.sparesTable t :=
  .inr ⟨by rw [ht], by rw [hc], by rw [hc]; exact id⟩

/-- A change of the controller that keeps the straps and the operating state. -/
theorem State.sparesTable_of_ctrl {s t : State} (ht : t.table.entries = s.table.entries)
    (hs : t.ctrl.straps = s.ctrl.straps) (ho : t.ctrl.opState = s.ctrl.opState) : s.sparesTable t :=
  .inr ⟨ht, hs, by rw [ho]; exact id⟩

/-- An entry to a state in which the table may be loaded. -/
theorem State.sparesTable_of_loaded {s t : State} (ht : t.table.entries = s.table.entries)
    (hs : t.ctrl.straps = s.ctrl.straps) (ho : ¬t.ctrl.opState.unloaded) : s.sparesTable t :=
  .inr ⟨ht, hs, fun h => absurd h ho⟩

theorem State.sparesTable_refl (s : State) : s.sparesTable s :=
  State.sparesTable_of_eq rfl rfl

theorem State.sparesTable.trans {s t u : State} (h : s.sparesTable t) (h' : t.sparesTable u) : s.sparesTable u := by
  rcases h' with he' | ⟨he', hs', ho'⟩
  · exact .inl he'
  · rcases h with he | ⟨he, hs, ho⟩
    · exact .inl (he'.trans he)
    · exact .inr ⟨he'.trans he, hs'.trans hs, ho ∘ ho'⟩

/-- A legal table that is spared is legal. -/
theorem State.sparesTable.tableLegal {s t : State} (h : s.sparesTable t) (hs : s.tableLegal) : t.tableLegal := by
  rw [State.tableLegal_iff] at hs ⊢
  rcases h with he | ⟨he, hst, ho⟩
  · rw [State.tableEmptyUntilLoaded, he]
    exact ⟨RegionTable.legal_noEntries _, fun _ => RegionTable.noEntries_get⟩
  · rw [State.tableEmptyUntilLoaded, State.base, he, hst]
    exact ⟨hs.1, fun hu => hs.2 (ho hu)⟩

/-! ## The load of a profile block (R19, R163) -/

/-- R163 step 4: an entry loaded at an index that is still invalid keeps the entries legal. -/
theorem State.loadEntry_legal {s : State} {i : Fin 8} (bs : List Byte)
    (h : RegionTable.Legal s.table.entries s.base) (hi : s.table.entries[i] = RegionEntry.invalid) :
    RegionTable.Legal (State.loadEntry bs s i).table.entries s.base := by
  have hnf : RegionTable.followed s.table.entries i = false := h.not_followed (by rw [hi]; rfl)
  unfold State.loadEntry
  dsimp only
  split
  · split
    · exact h.set_stored ‹_› ‹_› fun hf => by rw [hnf] at hf; cases hf
    · simpa using h
  · exact h

/-- R163 step 4: an entry at one index leaves the others. -/
theorem State.loadEntry_other {s : State} {i k : Fin 8} (bs : List Byte) (hk : k ≠ i) :
    (State.loadEntry bs s i).table.entries[k] = s.table.entries[k] := by
  unfold State.loadEntry
  dsimp only
  split
  · split
    · exact RegionTable.set_other _ _ hk
    · simp
  · rfl

/-- R163 step 4: entries loaded one after the other, each at an index that was invalid, keep the entries legal. -/
theorem State.loadEntries_legal (bs : List Byte) {is : List (Fin 8)} {s : State} (hnd : is.Nodup)
    (hi : ∀ i ∈ is, s.table.entries[i] = RegionEntry.invalid)
    (h : RegionTable.Legal s.table.entries s.base) :
    RegionTable.Legal (is.foldl (State.loadEntry bs) s).table.entries s.base := by
  induction is generalizing s with
  | nil => exact h
  | cons i is ih =>
    obtain ⟨hni, hnd⟩ := List.nodup_cons.1 hnd
    have hb : (State.loadEntry bs s i).base = s.base := by simp [State.base]
    rw [List.foldl_cons, ← hb]
    refine ih hnd (fun k hk => ?_) ?_
    · rw [State.loadEntry_other bs (ne_of_mem_of_not_mem hk hni)]
      exact hi k (List.mem_cons_of_mem i hk)
    · rw [hb]
      exact State.loadEntry_legal bs h (hi i List.mem_cons_self)

/-- R162: a bad block leaves the table empty. -/
theorem State.loadBad_entries (s : State) : s.loadBad.table.entries = RegionTable.noEntries := by
  simp [State.loadBad]

/-- R163: a good block loaded into an empty table leaves the entries legal. -/
theorem State.loadGood_legal {s : State} (bs : List Byte)
    (he : ∀ i : Fin 8, s.table.entries[i] = RegionEntry.invalid)
    (h : RegionTable.Legal s.table.entries s.base) :
    RegionTable.Legal (s.loadGood bs).table.entries s.base := by
  have hload (u : State) (ht : u.table.entries = s.table.entries) (hb : u.base = s.base) :
      RegionTable.Legal (indices8.foldl (State.loadEntry bs) u).table.entries s.base := by
    rw [← hb]
    refine State.loadEntries_legal bs (by decide) (fun i _ => ?_) ?_
    · rw [ht]
      exact he i
    · rwa [ht, hb]
  simpa [State.loadGood] using hload _ (by simp) (by simp [State.base])

/-- R164: the state in which a load ends. -/
theorem State.loadDone_opState (s : State) (bs : List Byte) : (s.loadDone bs).ctrl.opState = .running := by
  simp [State.loadDone, State.enterState]

/-- R162, R163: the table in which a load ends. -/
theorem State.loadDone_table (s : State) (bs : List Byte) :
    (s.loadDone bs).table = (if profileGood bs then s.loadGood bs else s.loadBad).table := by
  simp [State.loadDone]

/-- R162 to R164: the end of a load into an empty table leaves a legal table. -/
theorem State.loadDone_tableLegal {s : State} (bs : List Byte)
    (he : ∀ i : Fin 8, s.table.entries[i] = RegionEntry.invalid) (h : s.tableLegal) :
    (s.loadDone bs).tableLegal := by
  rw [State.tableLegal_iff] at h ⊢
  constructor
  · have hb : (s.loadDone bs).base = s.base := by simp [State.base]
    rw [hb, State.loadDone_table]
    split
    · exact State.loadGood_legal bs he h.1
    · rw [State.loadBad_entries]
      exact RegionTable.legal_noEntries _
  · rw [State.tableEmptyUntilLoaded, State.loadDone_opState]
    intro ho
    simp at ho

/-- R161: a byte that the loader takes keeps an empty table legal. -/
theorem State.loaderTake_tableLegal {s : State} (b : Byte)
    (he : ∀ i : Fin 8, s.table.entries[i] = RegionEntry.invalid) (h : s.tableLegal) :
    (s.loaderTake b).tableLegal := by
  unfold State.loaderTake
  split
  · exact (State.sparesTable_of_ctrl rfl rfl rfl).tableLegal h
  · exact State.loadDone_tableLegal _ he h

/-! ## The engines (R115, R122 to R124) -/

/-- R124: the state that a second failure enters. -/
@[simp] theorem State.enterFaulted_opState (s : State) (c : FaultCause) (e : Requester) (o : Order) :
    (s.enterFaulted c e o).ctrl.opState = .faulted := by
  simp [State.enterFaulted, State.enterState]

theorem State.journalFault_sparesTable (s : State) (a : Nat) (o : Order) : s.sparesTable (s.journalFault a o) := by
  unfold State.journalFault
  split
  · split
    · exact State.sparesTable_of_eq (by simp) (by simp)
    · exact State.sparesTable_of_loaded (by simp) (by simp) (by simp [OpState.unloaded])
  · exact s.sparesTable_refl

theorem State.writerAdvance_sparesTable (s : State) (r : StepResult) (o : Order) :
    s.sparesTable (s.writerAdvance r o) := by
  unfold State.writerAdvance
  split
  · exact s.journalFault_sparesTable _ o
  all_goals exact State.sparesTable_of_eq (by simp) (by simp)

theorem State.writerResume_sparesTable (s : State) (r : StepResult) (o : Order) :
    s.sparesTable (s.writerResume r o) := by
  cases r with
  | done => exact (s.writerAdvance_sparesTable .done o).trans (State.sparesTable_of_eq rfl rfl)
  | more | unequal _ => exact State.sparesTable_of_eq rfl rfl

theorem State.writerTake_sparesTable (s : State) (b : Byte) (o : Order) : s.sparesTable (s.writerTake b o) := by
  unfold State.writerTake
  split
  case h_4 | h_5 | h_6 =>
    dsimp only
    split
    · exact s.writerResume_sparesTable _ o
    · exact s.writerAdvance_sparesTable _ o
  case h_1 =>
    split
    · exact State.sparesTable_of_eq (by simp) (by simp)
    · exact s.sparesTable_refl
  all_goals exact State.sparesTable_of_eq (by simp) (by simp)

theorem State.applyFault_sparesTable (s : State) (a : Nat) (o : Order) : s.sparesTable (s.applyFault a o) := by
  unfold State.applyFault
  split
  · split
    · exact State.sparesTable_of_eq (by simp) (by simp)
    · exact State.sparesTable_of_loaded (by simp) (by simp) (by simp [OpState.unloaded])
  · exact s.sparesTable_refl

theorem State.applierAdvance_sparesTable (s : State) (r : StepResult) (o : Order) :
    s.sparesTable (s.applierAdvance r o) := by
  unfold State.applierAdvance
  split
  · exact s.applyFault_sparesTable _ o
  case h_3 =>
    split <;> exact State.sparesTable_of_eq rfl rfl
  all_goals exact State.sparesTable_of_eq (by simp) (by simp)

theorem State.applierResume_sparesTable (s : State) (r : StepResult) (o : Order) :
    s.sparesTable (s.applierResume r o) := by
  cases r with
  | done => exact (s.applierAdvance_sparesTable .done o).trans (State.sparesTable_of_eq rfl rfl)
  | more | unequal _ => exact State.sparesTable_of_eq rfl rfl

theorem State.applierTake_sparesTable (s : State) (b : Byte) (o : Order) : s.sparesTable (s.applierTake b o) := by
  unfold State.applierTake
  dsimp only
  split
  · exact s.applierResume_sparesTable _ o
  · exact s.applierAdvance_sparesTable _ o

/-! ## Recovery and the format (R139 to R149, R102 to R105) -/

theorem State.beginLoad_entries (s : State) (o : OpState) :
    (s.beginLoad o).table.entries = RegionTable.noEntries := rfl

theorem State.setRecovery_sparesTable (s : State) (r : Recovery) : s.sparesTable (s.setRecovery r) :=
  State.sparesTable_of_ctrl rfl rfl rfl

/-- R148: a scan that ends begins the first load. -/
theorem State.scanEnd_sparesTable (s : State) : s.sparesTable s.scanEnd :=
  .inl (State.beginLoad_entries _ _)

/-- R149: a recovery fault enters FAULTED. -/
theorem State.recoveryFault_sparesTable (s : State) : s.sparesTable s.recoveryFault :=
  State.sparesTable_of_loaded (by simp) (by simp)
    (by simp [State.recoveryFault, State.enterState, OpState.unloaded])

theorem State.examine_sparesTable (s : State) : s.sparesTable s.examine := by
  unfold State.examine
  dsimp only
  split
  · exact s.scanEnd_sparesTable
  · exact s.setRecovery_sparesTable _

theorem State.scanDamaged_sparesTable (s : State) : s.sparesTable s.scanDamaged :=
  (s.setRecovery_sparesTable _).trans (State.scanEnd_sparesTable _)

theorem State.followPad_sparesTable (s : State) : s.sparesTable s.followPad :=
  (s.setRecovery_sparesTable _).trans (State.examine_sparesTable _)

theorem State.passLag_sparesTable (s : State) (l : Nat) : s.sparesTable (s.passLag l) :=
  (s.setRecovery_sparesTable _).trans (State.examine_sparesTable _)

theorem State.scanMark_sparesTable (s : State) (b : Byte) : s.sparesTable (s.scanMark b) := by
  unfold State.scanMark
  dsimp only
  split_ifs
  · exact s.followPad_sparesTable
  · exact s.scanEnd_sparesTable
  · exact s.setRecovery_sparesTable _
  · exact s.scanEnd_sparesTable
  · exact s.scanEnd_sparesTable

theorem State.scanUnfit_sparesTable (s : State) (bs : List Byte) : s.sparesTable (s.scanUnfit bs) := by
  unfold State.scanUnfit
  dsimp only
  split
  · exact s.scanDamaged_sparesTable
  · exact s.scanEnd_sparesTable

theorem State.scanHeader_sparesTable (s : State) (bs : List Byte) : s.sparesTable (s.scanHeader bs) := by
  unfold State.scanHeader
  dsimp only
  split
  · exact s.setRecovery_sparesTable _
  · exact s.scanUnfit_sparesTable bs

theorem State.scanEntry_sparesTable (s : State) (bs : List Byte) : s.sparesTable (s.scanEntry bs) := by
  unfold State.scanEntry
  dsimp only
  split
  · split_ifs
    · exact State.sparesTable_of_ctrl (by simp) (by simp) (by simp)
    · exact s.passLag_sparesTable _
    · exact s.scanEnd_sparesTable
  · exact s.scanUnfit_sparesTable bs

theorem State.scanTake_sparesTable (s : State) (b : Byte) : s.sparesTable (s.scanTake b) := by
  unfold State.scanTake
  dsimp only
  split_ifs
  · exact s.scanMark_sparesTable b
  · exact s.setRecovery_sparesTable _
  · exact s.scanHeader_sparesTable _
  · exact s.setRecovery_sparesTable _
  · exact s.scanEntry_sparesTable _

/-- R140: no anchor leads to LOCKED, from a state in which the table is empty as well. -/
theorem State.enterLocked_sparesTable {s : State} (h : s.ctrl.opState.unloaded) : s.sparesTable s.enterLocked :=
  .inr ⟨by simp, by simp, fun _ => h⟩

theorem State.anchorsRead_sparesTable {s : State} (h : s.ctrl.opState.unloaded) (bs : List Byte) :
    s.sparesTable (s.anchorsRead bs) := by
  unfold State.anchorsRead
  dsimp only
  split
  · exact (State.sparesTable_of_ctrl (by simp) (by simp) (by simp)).trans (State.examine_sparesTable _)
  · split
    · exact State.sparesTable_of_ctrl (by simp) (by simp) (by simp)
    · exact State.enterLocked_sparesTable h

theorem State.anchorsTake_sparesTable {s : State} (h : s.ctrl.opState.unloaded) (b : Byte) :
    s.sparesTable (s.anchorsTake b) := by
  unfold State.anchorsTake
  dsimp only
  split
  · exact s.setRecovery_sparesTable _
  · exact State.anchorsRead_sparesTable h _

theorem State.replayDone_sparesTable (s : State) : s.sparesTable s.replayDone :=
  (State.sparesTable_of_ctrl (by simp) (by simp) (by simp)).trans (State.examine_sparesTable _)

theorem State.replayFault_sparesTable (s : State) (a : Nat) : s.sparesTable (s.replayFault a) := by
  unfold State.replayFault
  dsimp only
  split
  · exact State.sparesTable_of_ctrl (by simp) (by simp) (by simp)
  · exact (State.sparesTable_of_eq (by simp) (by simp)).trans (State.recoveryFault_sparesTable _)

theorem State.replayAdvance_sparesTable (s : State) (x : StepResult) : s.sparesTable (s.replayAdvance x) := by
  unfold State.replayAdvance
  dsimp only
  split
  case h_1 => exact s.replayFault_sparesTable _
  case h_3 => split <;> exact s.setRecovery_sparesTable _
  case h_5 => exact s.replayDone_sparesTable
  case h_6 => exact s.sparesTable_refl
  all_goals exact s.setRecovery_sparesTable _

/-- R102, R105: a write of a format goes on to the next, or the format ends and the first load begins. -/
theorem State.formatTake_sparesTable (s : State) : s.sparesTable s.formatTake := by
  unfold State.formatTake
  split
  · split_ifs
    · exact State.sparesTable_of_ctrl rfl rfl rfl
    · exact .inl (State.beginLoad_entries _ _)
    · exact .inl (State.beginLoad_entries _ _)
  · exact s.sparesTable_refl

theorem State.recoveryTake_sparesTable {s : State} (h : s.ctrl.opState.unloaded) (b : Byte) :
    s.sparesTable (s.recoveryTake b) := by
  unfold State.recoveryTake
  split
  case h_1 => exact s.sparesTable_refl
  case h_2 => exact State.anchorsTake_sparesTable h b
  case h_3 => exact s.scanTake_sparesTable b
  case h_7 => exact s.formatTake_sparesTable
  all_goals exact s.replayAdvance_sparesTable _

/-! ## A completed access -/

theorem State.systemTake_tableLegal {s : State} (b : Byte) (h : s.tableLegal) : (s.systemTake b).tableLegal := by
  have hempty := (State.tableLegal_iff.1 h).2
  unfold State.systemTake
  split
  case h_1 ho => exact (State.recoveryTake_sparesTable (by simp [ho, OpState.unloaded]) b).tableLegal h
  case h_2 ho | h_3 ho => exact State.loaderTake_tableLegal b (hempty (by simp [ho])) h
  case h_4 => exact s.formatTake_sparesTable.tableLegal h
  all_goals exact h

theorem State.deliver_tableLegal {s : State} (w : AccessOwner) (b : Byte) (o : Order) (h : s.tableLegal) :
    (s.deliver w b o).tableLegal := by
  unfold State.deliver
  split
  · exact (State.sparesTable_of_eq (by simp) (by simp)).tableLegal h
  · exact (s.writerTake_sparesTable b o).tableLegal h
  · exact (s.applierTake_sparesTable b o).tableLegal h
  · exact State.systemTake_tableLegal b h

/-- A completed access leaves the table and the controller. -/
theorem State.completeAccess_sparesTable {s t : State} {a : Access} {ans : MemAnswer} {b : Byte}
    (h : s.completeAccess a ans = some (t, b)) : s.sparesTable t := by
  obtain ⟨-, ⟨-, rfl⟩ | ⟨v, c, -, rfl⟩⟩ := State.completeAccess_cases h
  · exact State.sparesTable_of_eq rfl rfl
  · exact State.sparesTable_of_eq rfl rfl

end Sys2Proof.Machine
end

section
/-! SUPPORT. Every command keeps the region table legal, and the invariant's statement (R2). -/

namespace Sys2Proof.Machine

/-- Every next state that an outcome can name has the property. -/
def Always (P : State → Prop) (o : Host.Outcome State Fault Refusal) : Prop :=
  ∀ t, o = .next t → P t

@[simp] theorem always_next {P : State → Prop} {t : State} : Always P (.next t) ↔ P t :=
  ⟨fun h => h t rfl, fun h _ ht => by cases ht; exact h⟩

@[simp] theorem always_fault {P : State → Prop} {r : Fault} : Always P (.fault r) :=
  fun _ h => nomatch h

@[simp] theorem always_refused {P : State → Prop} {r : Refusal} : Always P (.refused r) :=
  fun _ h => nomatch h

/-- An outcome that spares a legal table leaves it legal. -/
theorem Always.tableLegal {s : State} {o : Host.Outcome State Fault Refusal} (h : Always s.sparesTable o)
    (hs : s.tableLegal) : Always State.tableLegal o :=
  fun t ht => (h t ht).tableLegal hs

/-! ## Supply, PFAIL# and SRST# -/

/-- R138: the clearing of the volatile fields empties the table. -/
theorem State.clearVolatile_entries (s : State) (t : Straps) :
    (s.clearVolatile t).table.entries = RegionTable.noEntries := rfl

/-- R138: so does the coming of the supply. -/
theorem State.startUp_entries (s : State) (t : Straps) : (s.startUp t).table.entries = RegionTable.noEntries := rfl

/-- R155: so does the loss of the supply. -/
theorem State.lost_entries (s : State) : s.lost.table.entries = RegionTable.noEntries := rfl

theorem execPowerUp_spares (t : Straps) (s : State) : Always s.sparesTable (execPowerUp t s) := by
  unfold execPowerUp
  split_ifs
  · exact always_next.2 (.inl (by simp [State.startUp_entries]))
  · exact always_next.2 (.inl (by simp [State.clearVolatile_entries]))
  · exact always_next.2 s.sparesTable_refl

theorem execSupplyLoss_spares (ans : MemAnswer) (s : State) : Always s.sparesTable (execSupplyLoss ans s) := by
  unfold execSupplyLoss
  split
  · split
    · split
      · exact always_next.2 (.inl (State.lost_entries _))
      · exact always_fault
    · exact always_next.2 (.inl (State.lost_entries _))
  · exact always_next.2 s.sparesTable_refl

/-- R154: PFAIL# leaves the table, or completes the clearing of STARTING. -/
theorem State.stopOnPfail_sparesTable (s : State) : s.sparesTable s.stopOnPfail := by
  unfold State.stopOnPfail
  split
  · exact .inl (by simp [State.startUp_entries])
  · exact State.sparesTable_of_loaded rfl rfl (by simp [State.freeze, State.enterState, OpState.unloaded])

theorem execPfailAssert_spares (ans : MemAnswer) (s : State) : Always s.sparesTable (execPfailAssert ans s) := by
  have hpin : s.sparesTable (s.setPins { s.pins with pfail := true }) := State.sparesTable_of_eq rfl rfl
  unfold execPfailAssert
  dsimp only
  split
  · split
    · split
      · exact always_next.2
          ((hpin.trans (State.completeAccess_sparesTable ‹_›)).trans (State.stopOnPfail_sparesTable _))
      · exact always_fault
    · exact always_next.2 (hpin.trans (State.stopOnPfail_sparesTable _))
  · exact always_next.2 hpin

theorem execPfailRestart_spares (s : State) : Always s.sparesTable (execPfailRestart s) := by
  unfold execPfailRestart
  dsimp only
  split
  · exact always_next.2 (.inl (by simp [State.restart]))
  · exact always_next.2 (State.sparesTable_of_eq rfl rfl)

theorem execHostReset_spares (s : State) : Always s.sparesTable (execHostReset s) := by
  unfold execHostReset
  dsimp only
  split_ifs <;> exact always_next.2 (State.sparesTable_of_eq (by simp) (by simp))

/-! ## Host cycles -/

theorem execHostCycle_spares (sel rd wr : Bool) (a : Addr) (d : Byte) (s : State) :
    Always s.sparesTable (execHostCycle sel rd wr a d s) := by
  unfold execHostCycle
  split <;> exact always_next.2 (State.sparesTable_of_eq (by simp) (by simp))

theorem execHostCycleEnd_spares (s : State) : Always s.sparesTable (execHostCycleEnd s) := by
  unfold execHostCycleEnd
  split <;> exact always_next.2 (State.sparesTable_of_eq rfl rfl)

theorem execHostCycleWithdrawn_spares (s : State) : Always s.sparesTable (execHostCycleWithdrawn s) := by
  unfold execHostCycleWithdrawn
  (repeat' split) <;> exact always_next.2 (State.sparesTable_of_eq rfl rfl)

/-! ## The memory port and the engines -/

theorem State.afterAccess_sparesTable (s : State) (o : Order) : s.sparesTable (s.afterAccess o) :=
  State.sparesTable_of_eq (by simp) (by simp)

theorem execMemoryAccessComplete_tableLegal (ans : MemAnswer) (o : Order) {s : State} (h : s.tableLegal) :
    Always State.tableLegal (execMemoryAccessComplete ans o s) := by
  unfold execMemoryAccessComplete
  split
  · split
    · split
      · have hdone := (State.completeAccess_sparesTable ‹_›).tableLegal h
        exact always_next.2 ((State.afterAccess_sparesTable _ o).tableLegal (State.deliver_tableLegal _ _ o hdone))
      · exact always_fault
    · exact always_next.2 h
  · exact always_next.2 h

theorem execWriterTakeGroup_spares (s : State) : Always s.sparesTable (execWriterTakeGroup s) := by
  unfold execWriterTakeGroup
  (repeat' split) <;> exact always_next.2 (State.sparesTable_of_eq (by simp) (by simp))

theorem execWriterPlace_spares (s : State) : Always s.sparesTable (execWriterPlace s) := by
  unfold execWriterPlace
  split <;> exact always_next.2 (State.sparesTable_of_eq (by simp) (by simp))

theorem execApplierTakeEntry_spares (s : State) : Always s.sparesTable (execApplierTakeEntry s) := by
  unfold execApplierTakeEntry
  (repeat' split) <;> exact always_next.2 (State.sparesTable_of_eq (by simp) (by simp))

/-! ## The management port -/

theorem execTransactionBegin_spares (s : State) : Always s.sparesTable (execTransactionBegin s) := by
  unfold execTransactionBegin
  dsimp only
  split <;> exact always_next.2 (State.sparesTable_of_eq rfl rfl)

theorem execTransactionEnd_spares (s : State) : Always s.sparesTable (execTransactionEnd s) := by
  unfold execTransactionEnd
  dsimp only
  split <;> exact always_next.2 (State.sparesTable_of_eq rfl rfl)

theorem execBadCommand_spares (code : Byte) (s : State) : Always s.sparesTable (execBadCommand code s) := by
  unfold execBadCommand
  split_ifs
  · exact always_refused
  · exact always_next.2 (State.sparesTable_of_eq rfl rfl)
  · exact always_next.2 s.sparesTable_refl

theorem State.takeBytes_sparesTable (s : State) (c : MgmtCommand) (ps : List Byte) :
    s.sparesTable (s.takeBytes c ps) :=
  State.sparesTable_of_eq (by simp) (by simp)

theorem State.reply_sparesTable (s : State) (c : MgmtCommand) (ps : List Byte) (st : Status) (bs : List Byte) :
    s.sparesTable (s.reply c ps st bs) :=
  State.sparesTable_of_eq rfl rfl

/-- R189: what holds of the state, of each answer in it, and of the command's effect where it is accepted holds at the effect
point. -/
theorem State.effectPoint_of {P : State → Prop} {s : State} {c : MgmtCommand} {ps : List Byte}
    {act : State → State} (hs : P s) (hr : P (s.reply c ps .notNow []))
    (ha : c.accepted s.ctrl.opState s.ctrl.format.isSome = true → P (act s)) : P (s.effectPoint c ps act) := by
  unfold State.effectPoint
  split_ifs with hw hc
  · exact ha hc
  · exact hr
  · exact hs

/-- A command whose effect spares the table spares it at its effect point. -/
theorem State.effectPoint_spares {s : State} (c : MgmtCommand) (ps : List Byte) {act : State → State}
    (h : s.sparesTable (act s)) : Always s.sparesTable (.next (s.effectPoint c ps act)) :=
  always_next.2 (State.effectPoint_of s.sparesTable_refl (s.reply_sparesTable c ps _ _) fun _ => h)

theorem execReportReadComplete_spares (s : State) : Always s.sparesTable (execReportReadComplete s) := by
  unfold execReportReadComplete
  dsimp only
  split_ifs <;> exact always_next.2 (State.sparesTable_of_ctrl rfl rfl rfl)

theorem execTakeRemove_spares (s : State) : Always s.sparesTable (execTakeRemove s) := by
  unfold execTakeRemove
  dsimp only
  split_ifs <;> exact always_next.2 (State.sparesTable_of_eq rfl rfl)

theorem execPeek_spares (s : State) : Always s.sparesTable (execPeek s) :=
  State.effectPoint_spares _ _ (State.sparesTable_of_eq (by simp) (by simp))

theorem execTake_spares (s : State) : Always s.sparesTable (execTake s) :=
  State.effectPoint_spares _ _ (State.sparesTable_of_eq (by simp) (by simp))

theorem execGetRegion_spares (index : Option Byte) (s : State) : Always s.sparesTable (execGetRegion index s) := by
  cases index with
  | none => exact always_next.2 (s.takeBytes_sparesTable _ _)
  | some b =>
    refine State.effectPoint_spares _ _ ?_
    cases index8 b <;> exact s.reply_sparesTable _ _ _ _

theorem execSlot_spares (index : Option Byte) (s : State) : Always s.sparesTable (execSlot index s) := by
  cases index with
  | none => exact always_next.2 (s.takeBytes_sparesTable _ _)
  | some b =>
    refine State.effectPoint_spares _ _ ?_
    cases index8 b <;> exact s.reply_sparesTable _ _ _ _

theorem execMask_spares (high low : Option Byte) (s : State) : Always s.sparesTable (execMask high low s) := by
  cases high with
  | none => exact always_next.2 (s.takeBytes_sparesTable _ _)
  | some h =>
    cases low with
    | none => exact always_next.2 (s.takeBytes_sparesTable _ _)
    | some l => exact State.effectPoint_spares _ _ (State.sparesTable_of_ctrl rfl rfl rfl)

theorem execSetDefault_spares (code : Option Byte) (s : State) : Always s.sparesTable (execSetDefault code s) := by
  cases code with
  | none => exact always_next.2 (s.takeBytes_sparesTable _ _)
  | some b =>
    refine State.effectPoint_spares _ _ ?_
    cases defaultClassOfCode b <;> exact State.sparesTable_of_ctrl rfl rfl rfl

theorem execStoreProfile_spares (s : State) : Always s.sparesTable (execStoreProfile s) := by
  refine State.effectPoint_spares _ _ ?_
  cases s.stage.lowestFree with
  | some i => exact State.sparesTable_of_ctrl (by simp) (by simp) (by simp)
  | none => exact s.reply_sparesTable _ _ _ _

/-- R166: a load that begins empties the table. -/
theorem execLoadProfile_spares (s : State) : Always s.sparesTable (execLoadProfile s) := by
  refine State.effectPoint_spares _ _ ?_
  split
  · exact .inl (by simp [State.beginLoad_entries])
  · exact s.reply_sparesTable _ _ _ _

theorem execFormat_spares (s : State) : Always s.sparesTable (execFormat s) :=
  State.effectPoint_spares _ _ (State.sparesTable_of_ctrl (by simp) (by simp) (by simp))

/-- R126: the state that RESUME enters. -/
theorem State.resumeEngines_opState (s : State) : s.resumeEngines.ctrl.opState = .running := by
  unfold State.resumeEngines
  dsimp only
  (repeat' split) <;> simp [State.enterState]

theorem execResume_spares (s : State) : Always s.sparesTable (execResume s) :=
  State.effectPoint_spares _ _ (State.sparesTable_of_loaded (by simp) (by simp)
    (by simp [State.resumeEngines_opState, OpState.unloaded]))

theorem execDiscardHeld_spares (trigger : Option Byte) (s : State) :
    Always s.sparesTable (execDiscardHeld trigger s) := by
  cases trigger with
  | none => exact always_next.2 (s.takeBytes_sparesTable _ _)
  | some b =>
    refine State.effectPoint_spares _ _ ?_
    cases index8 b with
    | none => exact s.reply_sparesTable _ _ _ _
    | some t => exact State.sparesTable_of_eq (by simp) (by simp)

/-- R194: PUT REGION is accepted only where the table may be loaded. -/
theorem putRegion_accepted {o : OpState} {f : Bool} (h : MgmtCommand.putRegion.accepted o f = true) :
    ¬o.unloaded := by
  rcases (by simpa [MgmtCommand.accepted] using h : o = .running ∨ o = .faulted) with rfl | rfl <;>
    simp [OpState.unloaded]

/-- R16: an entry written where the table may be loaded leaves a legal table when the entries are legal. -/
theorem State.writeEntry_tableLegal {s : State} {i : Fin 8} {x : RegionEntry} (ho : ¬s.ctrl.opState.unloaded)
    (h : RegionTable.Legal (s.table.entries.set i x) s.base) : (s.writeEntry i x).tableLegal :=
  State.tableLegal_iff.2 ⟨h, fun hu => absurd hu ho⟩

/-- R10 to R16: a PUT REGION that passes its checks writes an entry that keeps the table legal; any other leaves it. -/
theorem execPutRegion_tableLegal (index : Option Byte) (entry : EntryArg) {s : State} (h : s.tableLegal) :
    Always State.tableLegal (execPutRegion index entry s) := by
  cases index with
  | none => exact always_next.2 ((s.takeBytes_sparesTable _ _).tableLegal h)
  | some b =>
    cases entry with
    | first e n => exact always_next.2 ((s.takeBytes_sparesTable _ _).tableLegal h)
    | whole e =>
      refine always_next.2 (State.effectPoint_of h ((s.reply_sparesTable _ _ _ _).tableLegal h) fun hacc => ?_)
      cases index8 b with
      | none => exact (s.reply_sparesTable _ _ _ _).tableLegal h
      | some i =>
        refine (State.reply_sparesTable _ _ _ _ _).tableLegal ?_
        split
        · exact State.writeEntry_tableLegal (putRegion_accepted hacc) ((State.tableLegal_iff.1 h).1.put ‹_›)
        · exact h

/-! ## Every command and the step -/

/-- R2: every command keeps the region table legal. -/
theorem exec_tableLegal (c : Instr) {s : State} (h : s.tableLegal) : Always State.tableLegal (exec c s) := by
  cases c with
  | powerUp t => exact (execPowerUp_spares t s).tableLegal h
  | supplyLoss ans => exact (execSupplyLoss_spares ans s).tableLegal h
  | pfailAssert ans => exact (execPfailAssert_spares ans s).tableLegal h
  | pfailRestart => exact (execPfailRestart_spares s).tableLegal h
  | hostReset => exact (execHostReset_spares s).tableLegal h
  | hostResetRelease => exact always_next.2 ((State.sparesTable_of_eq rfl rfl).tableLegal h)
  | hostCycle sel rd wr a d => exact (execHostCycle_spares sel rd wr a d s).tableLegal h
  | hostCycleEnd => exact (execHostCycleEnd_spares s).tableLegal h
  | hostCycleWithdrawn => exact (execHostCycleWithdrawn_spares s).tableLegal h
  | memoryAccessComplete ans o => exact execMemoryAccessComplete_tableLegal ans o h
  | writerTakeGroup => exact (execWriterTakeGroup_spares s).tableLegal h
  | writerPlace => exact (execWriterPlace_spares s).tableLegal h
  | applierTakeEntry => exact (execApplierTakeEntry_spares s).tableLegal h
  | transactionBegin => exact (execTransactionBegin_spares s).tableLegal h
  | transactionEnd => exact (execTransactionEnd_spares s).tableLegal h
  | badCommand code => exact (execBadCommand_spares code s).tableLegal h
  | status | report | getMask =>
    exact (State.effectPoint_spares _ _ (s.reply_sparesTable _ _ _ _)).tableLegal h
  | reportReadComplete => exact (execReportReadComplete_spares s).tableLegal h
  | peek => exact (execPeek_spares s).tableLegal h
  | take => exact (execTake_spares s).tableLegal h
  | takeRemove => exact (execTakeRemove_spares s).tableLegal h
  | getRegion index => exact (execGetRegion_spares index s).tableLegal h
  | putRegion index entry => exact execPutRegion_tableLegal index entry h
  | slot index => exact (execSlot_spares index s).tableLegal h
  | storeProfile => exact (execStoreProfile_spares s).tableLegal h
  | loadProfile => exact (execLoadProfile_spares s).tableLegal h
  | format => exact (execFormat_spares s).tableLegal h
  | resume => exact (execResume_spares s).tableLegal h
  | discardHeld trigger => exact (execDiscardHeld_spares trigger s).tableLegal h
  | mask high low => exact (execMask_spares high low s).tableLegal h
  | setDefault code => exact (execSetDefault_spares code s).tableLegal h

/-- R2: every step keeps the region table legal. -/
theorem step_tableLegal {s t : State} (hstep : step s = .next t) (h : s.tableLegal) : t.tableLegal := by
  unfold step at hstep
  split at hstep
  · cases hstep
    exact (State.sparesTable_of_eq (by simp) (by simp)).tableLegal h
  · rename_i c rest _
    have hrest : s.sparesTable (s.setPending rest) := State.sparesTable_of_eq rfl rfl
    exact exec_tableLegal c (hrest.tableLegal h) t hstep

/-- R2: an address lies in at most one entry of a legal table. -/
theorem RegionTable.Legal.covers_unique {entries : Vector RegionEntry 8} {base a : Nat} {i j : Fin 8}
    (h : RegionTable.Legal entries base) (hi : entries[i].covers a = true) (hj : entries[j].covers a = true) :
    i = j := by
  by_contra hne
  rw [h.disjoint i j a hne hi] at hj
  cases hj

end Sys2Proof.Machine

open Sys2Proof.Machine

/-- Settles O3: every step spares the table, loads entries into an empty one, or writes an entry that PUT REGION has
checked. -/
theorem regionTableStaysLegal : Obligations.RegionTableStaysLegal := by
  refine ⟨fun s t => step_tableLegal, fun s h => ?_⟩
  have hl := (State.tableLegal_iff.1 h).1
  exact ⟨fun i hv => (hl.normal i).range hv, fun a i j => hl.covers_unique⟩
end

section
/-! SUPPORT. The length of an entry and the size of the journal (R85, R137), and the Writer's L at a placement (R111). -/

namespace Sys2Proof.Machine

/-! ## Lengths -/

/-- R85: the length of an entry of `k` segments, from bounds on the length of each. -/
theorem entryLength_bounds {lengths : List Nat} {lo hi : Nat} (h : ∀ n ∈ lengths, lo ≤ n ∧ n ≤ hi) :
    8 + lengths.length * (4 + lo) ≤ entryLength lengths
      ∧ entryLength lengths ≤ 8 + lengths.length * (4 + hi) := by
  have hlo := (lengths.map (4 + ·)).card_nsmul_le_sum (4 + lo)
    (List.forall_mem_map.2 fun n hn => Nat.add_le_add_left (h n hn).1 4)
  have hhi := (lengths.map (4 + ·)).sum_le_card_nsmul (4 + hi)
    (List.forall_mem_map.2 fun n hn => Nat.add_le_add_left (h n hn).2 4)
  rw [List.length_map, smul_eq_mul] at hlo hhi
  exact ⟨Nat.add_le_add_left hlo 8, Nat.add_le_add_left hhi 8⟩

/-- R84, R85: the shortest entry has one segment of 2 bytes, the longest four of 128. -/
theorem entryLength_mem_range {lengths : List Nat} (h1 : 1 ≤ lengths.length) (h4 : lengths.length ≤ 4)
    (h : ∀ n ∈ lengths, 2 ≤ n ∧ n ≤ 128) : 14 ≤ entryLength lengths ∧ entryLength lengths ≤ 536 := by
  obtain ⟨hlo, hhi⟩ := entryLength_bounds h
  omega

/-- R137: J is 2048 bytes at least. -/
theorem journalSize_ge (t : Straps) : 2048 ≤ journalSize t :=
  Nat.le_mul_of_pos_right _ (Nat.two_pow_pos _)

/-! ## The Writer's L -/

/-- R111: a placement attempt keeps the Writer's L, whether or not there is room. -/
@[simp] theorem State.placeEntry_length (s : State) : s.placeEntry.writer.length = s.writer.length := by
  unfold State.placeEntry
  split
  · rw [State.setWriter_writer, State.setJournal_writer]
  · rfl

/-- R111: so does WRITER_PLACE, whose choice of the next access leaves the Writer. -/
theorem execWriterPlace_length (s : State) :
    Always (fun t => t.writer.length = s.writer.length) (execWriterPlace s) := by
  unfold execWriterPlace
  split
  · exact always_next.2 (by simp)
  · exact always_next.2 rfl

end Sys2Proof.Machine

open Sys2Proof.Machine

/-- Settles O16: the bounds are those of 8 and a sum of one to four terms of 6 to 132, and neither outcome of a placement
writes the Writer's L. -/
theorem entryLengthIsBounded : Obligations.EntryLengthIsBounded :=
  ⟨fun _ => rfl, fun _ => entryLength_mem_range, rfl, rfl, rfl, rfl, rfl, rfl, journalSize_ge,
    fun s t _ h => execWriterPlace_length s t h⟩
end

section
/-! SUPPORT. HRSTO# is driven for the operating state wherever that state is entered, so every step keeps it right (R135). -/

namespace Sys2Proof.Machine

/-! ## HRSTO# and the operating state -/

/-- R135: the invariant is that HRSTO# stands as the operating state asks. -/
theorem State.hrstoRight_iff {s : State} : s.hrstoRight ↔ s.ctrl.hrsto = s.ctrl.opState.holdsHost := by
  unfold State.hrstoRight
  cases s.ctrl.opState <;> simp [OpState.holdsHost]

/-- A change that keeps the operating state and HRSTO# keeps the invariant. -/
theorem State.hrstoRight.of_eq {s t : State} (h : s.hrstoRight) (ho : t.ctrl.opState = s.ctrl.opState)
    (hh : t.ctrl.hrsto = s.ctrl.hrsto) : t.hrstoRight := by
  rw [State.hrstoRight_iff] at h ⊢
  rw [ho, hh, h]

/-- A change of other blocks than the controller keeps the invariant. -/
theorem State.hrstoRight.of_ctrl {s t : State} (h : s.hrstoRight) (hc : t.ctrl = s.ctrl) : t.hrstoRight :=
  h.of_eq (by rw [hc]) (by rw [hc])

/-- R135: the entry to an operating state drives HRSTO# for it, whatever it was before. -/
@[simp] theorem State.enterState_drives (s : State) (o : OpState) :
    (s.enterState o).ctrl.opState = o ∧ (s.enterState o).ctrl.hrsto = o.holdsHost :=
  ⟨rfl, rfl⟩

theorem State.enterState_hrstoRight (s : State) (o : OpState) : (s.enterState o).hrstoRight :=
  State.hrstoRight_iff.2 (by simp)

/-! ## The memory port leaves the controller -/

/-- The arbiter's choice leaves the controller. -/
theorem State.grant_ctrl (s : State) : s.grant.ctrl = s.ctrl := by simp

/-- So does what follows the result of an access. -/
theorem State.afterAccess_ctrl (s : State) (o : Order) : (s.afterAccess o).ctrl = s.ctrl := by simp

/-- A completed access leaves the controller. -/
theorem State.completeAccess_ctrl {s t : State} {a : Access} {ans : MemAnswer} {b : Byte}
    (h : s.completeAccess a ans = some (t, b)) : t.ctrl = s.ctrl := by
  obtain ⟨-, ⟨-, rfl⟩ | ⟨v, c, -, rfl⟩⟩ := State.completeAccess_cases h <;> rfl

/-! ## Entries to an operating state -/

/-- R124: the entry to FAULTED. -/
theorem State.enterFaulted_hrstoRight (s : State) (c : FaultCause) (e : Requester) (o : Order) :
    (s.enterFaulted c e o).hrstoRight :=
  State.hrstoRight_iff.2 (by simp [State.enterFaulted])

/-- R19, R161: the begin of a load. -/
theorem State.beginLoad_hrstoRight (s : State) (o : OpState) : (s.beginLoad o).hrstoRight :=
  (s.enterState_hrstoRight o).of_eq rfl rfl

/-- R164: the end of a load. -/
theorem State.loadDone_hrstoRight (s : State) (bs : List Byte) : (s.loadDone bs).hrstoRight :=
  State.hrstoRight_iff.2 (by simp [State.loadDone])

/-- R139: the begin of a recovery. -/
theorem State.beginRecovery_hrstoRight (s : State) (c : StartCause) : (s.beginRecovery c).hrstoRight :=
  (s.enterState_hrstoRight .recovering).of_eq rfl rfl

/-- R149: the end of a recovery in FAULTED. -/
theorem State.recoveryFault_hrstoRight (s : State) : s.recoveryFault.hrstoRight :=
  State.hrstoRight_iff.2 (by simp [State.recoveryFault])

/-- R140: the end of a recovery in LOCKED. -/
theorem State.enterLocked_hrstoRight (s : State) : s.enterLocked.hrstoRight :=
  State.hrstoRight_iff.2 (by simp [State.enterLocked])

/-- R154: the entry to FROZEN. -/
theorem State.freeze_hrstoRight (s : State) : s.freeze.hrstoRight :=
  State.enterState_hrstoRight _ .frozen

/-- R135, R138: STARTING asserts HRSTO#. -/
theorem State.startUp_hrstoRight (s : State) (t : Straps) : (s.startUp t).hrstoRight :=
  State.hrstoRight_iff.2 rfl

/-- R155: the loss of the supply leaves the part as STARTING sets it. -/
theorem State.lost_hrstoRight (s : State) : s.lost.hrstoRight :=
  (s.startUp_hrstoRight s.ctrl.straps).of_ctrl rfl

/-- R134, R138: STARTING ends in RECOVERING or in FROZEN. -/
theorem State.endStarting_hrstoRight (s : State) : s.endStarting.hrstoRight := by
  unfold State.endStarting
  split
  · exact s.freeze_hrstoRight
  · exact (s.beginRecovery_hrstoRight .powerup).of_ctrl (State.grant_ctrl _)

/-- R154: PFAIL# ends in FROZEN, from STARTING too. -/
theorem State.stopOnPfail_hrstoRight (s : State) : s.stopOnPfail.hrstoRight := by
  unfold State.stopOnPfail
  split <;> exact State.freeze_hrstoRight _

/-- R126: RESUME leads to RUNNING. -/
theorem State.resumeEngines_hrstoRight (s : State) : s.resumeEngines.hrstoRight := by
  unfold State.resumeEngines
  extract_lets _ _ _ uncaused entered
  have hentered : entered.hrstoRight := uncaused.enterState_hrstoRight .running
  split
  · exact hentered.of_ctrl (by simp)
  · exact hentered

/-! ## The engines (R112 to R124) -/

section
variable {s : State} (h : s.hrstoRight)
include h

/-- R116: a compare of the Writer that failed leaves the operating state or enters FAULTED. -/
theorem State.journalFault_hrstoRight (a : Nat) (o : Order) : (s.journalFault a o).hrstoRight := by
  unfold State.journalFault
  split_ifs
  · exact h.of_ctrl (by simp)
  · exact State.enterFaulted_hrstoRight _ _ _ _
  · exact h

theorem State.writerAdvance_hrstoRight (r : StepResult) (o : Order) : (s.writerAdvance r o).hrstoRight := by
  unfold State.writerAdvance
  split
  · exact State.journalFault_hrstoRight h _ o
  all_goals exact h.of_ctrl (by simp)

theorem State.writerResume_hrstoRight (r : StepResult) (o : Order) : (s.writerResume r o).hrstoRight := by
  cases r with
  | done => exact (State.writerAdvance_hrstoRight h .done o).of_ctrl rfl
  | more | unequal _ => exact h.of_ctrl rfl

theorem State.writerTake_hrstoRight (b : Byte) (o : Order) : (s.writerTake b o).hrstoRight := by
  unfold State.writerTake
  split
  case h_1 => split <;> exact h.of_ctrl (by simp)
  case h_2 | h_3 => exact h.of_ctrl (by simp)
  all_goals
    dsimp only
    split
    · exact State.writerResume_hrstoRight h _ o
    · exact State.writerAdvance_hrstoRight h _ o

/-- R123: a compare of the Applier that failed leaves the operating state or enters FAULTED. -/
theorem State.applyFault_hrstoRight (a : Nat) (o : Order) : (s.applyFault a o).hrstoRight := by
  unfold State.applyFault
  split_ifs
  · exact h.of_ctrl (by simp)
  · exact State.enterFaulted_hrstoRight _ _ _ _
  · exact h

theorem State.applierAdvance_hrstoRight (r : StepResult) (o : Order) : (s.applierAdvance r o).hrstoRight := by
  unfold State.applierAdvance
  split
  · exact State.applyFault_hrstoRight h _ o
  case h_3 => split <;> exact h.of_ctrl rfl
  all_goals exact h.of_ctrl (by simp)

theorem State.applierResume_hrstoRight (r : StepResult) (o : Order) : (s.applierResume r o).hrstoRight := by
  cases r with
  | done => exact (State.applierAdvance_hrstoRight h .done o).of_ctrl rfl
  | more | unequal _ => exact h.of_ctrl rfl

theorem State.applierTake_hrstoRight (b : Byte) (o : Order) : (s.applierTake b o).hrstoRight := by
  unfold State.applierTake
  dsimp only
  split
  · exact State.applierResume_hrstoRight h _ o
  · exact State.applierAdvance_hrstoRight h _ o

end

/-! ## Recovery, the loader and the format (R139 to R149, R161, R102 to R105) -/

/-- R148: a scan that ends begins the first load. -/
theorem State.scanEnd_hrstoRight (s : State) : s.scanEnd.hrstoRight :=
  State.beginLoad_hrstoRight _ .initload

/-- R141: a damaged position ends the scan. -/
theorem State.scanDamaged_hrstoRight (s : State) : s.scanDamaged.hrstoRight :=
  State.scanEnd_hrstoRight _

theorem State.scanUnfit_hrstoRight (s : State) (bs : List Byte) : (s.scanUnfit bs).hrstoRight := by
  unfold State.scanUnfit
  dsimp only
  split
  · exact s.scanDamaged_hrstoRight
  · exact s.scanEnd_hrstoRight

section
variable {s : State} (h : s.hrstoRight)
include h

theorem State.setRecovery_hrstoRight (r : Recovery) : (s.setRecovery r).hrstoRight :=
  h.of_eq rfl rfl

theorem State.examine_hrstoRight : s.examine.hrstoRight := by
  unfold State.examine
  dsimp only
  split
  · exact s.scanEnd_hrstoRight
  · exact State.setRecovery_hrstoRight h _

theorem State.followPad_hrstoRight : s.followPad.hrstoRight :=
  State.examine_hrstoRight (State.setRecovery_hrstoRight h _)

theorem State.passLag_hrstoRight (l : Nat) : (s.passLag l).hrstoRight :=
  State.examine_hrstoRight (State.setRecovery_hrstoRight h _)

theorem State.scanMark_hrstoRight (b : Byte) : (s.scanMark b).hrstoRight := by
  unfold State.scanMark
  dsimp only
  split_ifs
  · exact State.followPad_hrstoRight h
  · exact s.scanEnd_hrstoRight
  · exact State.setRecovery_hrstoRight h _
  · exact s.scanEnd_hrstoRight
  · exact s.scanEnd_hrstoRight

theorem State.scanHeader_hrstoRight (bs : List Byte) : (s.scanHeader bs).hrstoRight := by
  unfold State.scanHeader
  dsimp only
  split
  · exact State.setRecovery_hrstoRight h _
  · exact s.scanUnfit_hrstoRight bs

theorem State.scanEntry_hrstoRight (bs : List Byte) : (s.scanEntry bs).hrstoRight := by
  unfold State.scanEntry
  dsimp only
  split
  · split_ifs
    · exact h.of_eq (by simp) (by simp)
    · exact State.passLag_hrstoRight h _
    · exact s.scanEnd_hrstoRight
  · exact s.scanUnfit_hrstoRight bs

theorem State.scanTake_hrstoRight (b : Byte) : (s.scanTake b).hrstoRight := by
  unfold State.scanTake
  dsimp only
  split_ifs
  · exact State.scanMark_hrstoRight h b
  · exact State.setRecovery_hrstoRight h _
  · exact State.scanHeader_hrstoRight h _
  · exact State.setRecovery_hrstoRight h _
  · exact State.scanEntry_hrstoRight h _

/-- R140, R105: the anchor copies lead to the scan, to the automatic format, or to LOCKED. -/
theorem State.anchorsRead_hrstoRight (bs : List Byte) : (s.anchorsRead bs).hrstoRight := by
  unfold State.anchorsRead
  dsimp only
  split
  · exact State.examine_hrstoRight (h.of_eq rfl rfl)
  · split
    · exact h.of_eq rfl rfl
    · exact s.enterLocked_hrstoRight

theorem State.anchorsTake_hrstoRight (b : Byte) : (s.anchorsTake b).hrstoRight := by
  unfold State.anchorsTake
  dsimp only
  split
  · exact State.setRecovery_hrstoRight h _
  · exact State.anchorsRead_hrstoRight h _

theorem State.replayDone_hrstoRight : s.replayDone.hrstoRight :=
  State.examine_hrstoRight (h.of_eq rfl rfl)

/-- R147: the first failure of a replay is retried, the second enters FAULTED. -/
theorem State.replayFault_hrstoRight (a : Nat) : (s.replayFault a).hrstoRight := by
  unfold State.replayFault
  dsimp only
  split
  · exact h.of_eq rfl rfl
  · exact State.recoveryFault_hrstoRight _

theorem State.replayAdvance_hrstoRight (x : StepResult) : (s.replayAdvance x).hrstoRight := by
  unfold State.replayAdvance
  dsimp only
  split
  case h_1 => exact State.replayFault_hrstoRight h _
  case h_3 => split <;> exact State.setRecovery_hrstoRight h _
  case h_5 => exact State.replayDone_hrstoRight h
  case h_6 => exact h
  all_goals exact State.setRecovery_hrstoRight h _

/-- R102, R105: a format goes on, or ends and begins a load. -/
theorem State.formatTake_hrstoRight : s.formatTake.hrstoRight := by
  unfold State.formatTake
  split
  · split_ifs
    · exact h.of_eq rfl rfl
    · exact State.beginLoad_hrstoRight _ _
    · exact State.beginLoad_hrstoRight _ _
  · exact h

theorem State.recoveryTake_hrstoRight (b : Byte) : (s.recoveryTake b).hrstoRight := by
  unfold State.recoveryTake
  split
  case h_1 => exact h
  case h_2 => exact State.anchorsTake_hrstoRight h b
  case h_3 => exact State.scanTake_hrstoRight h b
  case h_7 => exact State.formatTake_hrstoRight h
  all_goals exact State.replayAdvance_hrstoRight h _

/-- R161: the loader goes on, or ends in RUNNING. -/
theorem State.loaderTake_hrstoRight (b : Byte) : (s.loaderTake b).hrstoRight := by
  unfold State.loaderTake
  split
  · exact h.of_eq rfl rfl
  · exact s.loadDone_hrstoRight _

theorem State.systemTake_hrstoRight (b : Byte) : (s.systemTake b).hrstoRight := by
  unfold State.systemTake
  split
  case h_1 => exact State.recoveryTake_hrstoRight h b
  case h_2 | h_3 => exact State.loaderTake_hrstoRight h b
  case h_4 => exact State.formatTake_hrstoRight h
  all_goals exact h

/-- R36: whoever takes the result of an access keeps the invariant. -/
theorem State.deliver_hrstoRight (w : AccessOwner) (b : Byte) (o : Order) : (s.deliver w b o).hrstoRight := by
  unfold State.deliver
  split
  · exact h.of_ctrl (by simp)
  · exact State.writerTake_hrstoRight h b o
  · exact State.applierTake_hrstoRight h b o
  · exact State.systemTake_hrstoRight h b

end

end Sys2Proof.Machine
end

section
/-! SUPPORT. The commands that leave the controller, and the commands that can enter an operating state: each keeps HRSTO# as
the operating state asks (R135). -/

namespace Sys2Proof.Machine

/-! ## Commands that leave the controller -/

/-- From `s` to `t` the start-up and recovery controller is left as it is. -/
def State.keepsCtrl (s t : State) : Prop :=
  t.ctrl = s.ctrl

/-- An outcome that leaves the controller leaves HRSTO# right. -/
theorem Always.hrstoRight {s : State} {o : Host.Outcome State Fault Refusal} (h : Always s.keepsCtrl o)
    (hs : s.hrstoRight) : Always State.hrstoRight o :=
  fun t ht => hs.of_ctrl (h t ht)

section
variable (s : State)

theorem execHostReset_keepsCtrl : Always s.keepsCtrl (execHostReset s) := by
  unfold execHostReset
  dsimp only
  split_ifs <;> simp [State.keepsCtrl]

theorem execHostResetRelease_keepsCtrl : Always s.keepsCtrl (execHostResetRelease s) :=
  always_next.2 rfl

theorem execHostCycle_keepsCtrl (sel rd wr : Bool) (a : Addr) (d : Byte) :
    Always s.keepsCtrl (execHostCycle sel rd wr a d s) := by
  unfold execHostCycle
  split <;> simp [State.keepsCtrl]

theorem execHostCycleEnd_keepsCtrl : Always s.keepsCtrl (execHostCycleEnd s) := by
  unfold execHostCycleEnd
  split <;> exact always_next.2 rfl

theorem execHostCycleWithdrawn_keepsCtrl : Always s.keepsCtrl (execHostCycleWithdrawn s) := by
  unfold execHostCycleWithdrawn
  (repeat' split) <;> exact always_next.2 rfl

theorem execWriterTakeGroup_keepsCtrl : Always s.keepsCtrl (execWriterTakeGroup s) := by
  unfold execWriterTakeGroup
  (repeat' split) <;> simp [State.keepsCtrl]

theorem execWriterPlace_keepsCtrl : Always s.keepsCtrl (execWriterPlace s) := by
  unfold execWriterPlace
  split <;> simp [State.keepsCtrl]

theorem execApplierTakeEntry_keepsCtrl : Always s.keepsCtrl (execApplierTakeEntry s) := by
  unfold execApplierTakeEntry
  (repeat' split) <;> simp [State.keepsCtrl]

theorem execTransactionBegin_keepsCtrl : Always s.keepsCtrl (execTransactionBegin s) := by
  unfold execTransactionBegin
  dsimp only
  split <;> exact always_next.2 rfl

theorem execTransactionEnd_keepsCtrl : Always s.keepsCtrl (execTransactionEnd s) := by
  unfold execTransactionEnd
  dsimp only
  split <;> exact always_next.2 rfl

theorem execBadCommand_keepsCtrl (code : Byte) : Always s.keepsCtrl (execBadCommand code s) := by
  unfold execBadCommand
  split_ifs
  · exact always_refused
  · exact always_next.2 rfl
  · exact always_next.2 rfl

theorem execTakeRemove_keepsCtrl : Always s.keepsCtrl (execTakeRemove s) := by
  unfold execTakeRemove
  dsimp only
  split_ifs <;> exact always_next.2 rfl

theorem State.takeBytes_keepsCtrl (c : MgmtCommand) (ps : List Byte) :
    Always s.keepsCtrl (.next (s.takeBytes c ps)) :=
  always_next.2 (by simp [State.keepsCtrl])

/-- R189: an effect that leaves the controller leaves it at its effect point. -/
theorem State.effectPoint_keepsCtrl (c : MgmtCommand) (ps : List Byte) {act : State → State}
    (h : (act s).ctrl = s.ctrl) : Always s.keepsCtrl (.next (s.effectPoint c ps act)) :=
  always_next.2 (State.effectPoint_of (P := s.keepsCtrl) rfl rfl fun _ => h)

theorem execPeek_keepsCtrl : Always s.keepsCtrl (execPeek s) :=
  s.effectPoint_keepsCtrl _ _ (by simp)

theorem execTake_keepsCtrl : Always s.keepsCtrl (execTake s) :=
  s.effectPoint_keepsCtrl _ _ (by simp)

theorem execGetRegion_keepsCtrl (index : Option Byte) : Always s.keepsCtrl (execGetRegion index s) := by
  cases index with
  | none => exact s.takeBytes_keepsCtrl _ _
  | some b =>
    refine s.effectPoint_keepsCtrl _ _ ?_
    cases index8 b <;> rfl

theorem execSlot_keepsCtrl (index : Option Byte) : Always s.keepsCtrl (execSlot index s) := by
  cases index with
  | none => exact s.takeBytes_keepsCtrl _ _
  | some b =>
    refine s.effectPoint_keepsCtrl _ _ ?_
    cases index8 b <;> rfl

/-- R16: PUT REGION writes the entry or nothing. -/
theorem execPutRegion_keepsCtrl (index : Option Byte) (entry : EntryArg) :
    Always s.keepsCtrl (execPutRegion index entry s) := by
  cases index with
  | none => exact s.takeBytes_keepsCtrl _ _
  | some b =>
    cases entry with
    | first e n => exact s.takeBytes_keepsCtrl _ _
    | whole e =>
      refine s.effectPoint_keepsCtrl _ _ ?_
      cases index8 b with
      | none => rfl
      | some i =>
        dsimp only
        split <;> rfl

theorem execMask_keepsCtrl (high low : Option Byte) : Always s.keepsCtrl (execMask high low s) := by
  cases high with
  | none => exact s.takeBytes_keepsCtrl _ _
  | some h =>
    cases low with
    | none => exact s.takeBytes_keepsCtrl _ _
    | some l => exact s.effectPoint_keepsCtrl _ _ rfl

theorem execSetDefault_keepsCtrl (code : Option Byte) : Always s.keepsCtrl (execSetDefault code s) := by
  cases code with
  | none => exact s.takeBytes_keepsCtrl _ _
  | some b =>
    refine s.effectPoint_keepsCtrl _ _ ?_
    cases defaultClassOfCode b <;> rfl

theorem execDiscardHeld_keepsCtrl (trigger : Option Byte) : Always s.keepsCtrl (execDiscardHeld trigger s) := by
  cases trigger with
  | none => exact s.takeBytes_keepsCtrl _ _
  | some b =>
    refine s.effectPoint_keepsCtrl _ _ ?_
    cases index8 b with
    | none => rfl
    | some t => simp

end

/-! ## Commands that write the controller -/

/-- R138: POWER_UP ends STARTING. -/
theorem execPowerUp_hrstoRight (t : Straps) {s : State} (h : s.hrstoRight) :
    Always State.hrstoRight (execPowerUp t s) := by
  unfold execPowerUp
  split_ifs
  · exact always_next.2 (State.endStarting_hrstoRight _)
  · exact always_next.2 (State.endStarting_hrstoRight _)
  · exact always_next.2 h

/-- R155: the loss of the supply leads to STARTING. -/
theorem execSupplyLoss_hrstoRight (ans : MemAnswer) {s : State} (h : s.hrstoRight) :
    Always State.hrstoRight (execSupplyLoss ans s) := by
  unfold execSupplyLoss
  split
  · split
    · split
      · exact always_next.2 (State.lost_hrstoRight _)
      · exact always_fault
    · exact always_next.2 (State.lost_hrstoRight _)
  · exact always_next.2 h

/-- R154: PFAIL# changes its pin, or leads to FROZEN. -/
theorem execPfailAssert_hrstoRight (ans : MemAnswer) {s : State} (h : s.hrstoRight) :
    Always State.hrstoRight (execPfailAssert ans s) := by
  unfold execPfailAssert
  dsimp only
  split
  · split
    · split
      · exact always_next.2 (State.stopOnPfail_hrstoRight _)
      · exact always_fault
    · exact always_next.2 (State.stopOnPfail_hrstoRight _)
  · exact always_next.2 (h.of_ctrl rfl)

/-- R156: the PFAIL restart leads to RECOVERING. -/
theorem execPfailRestart_hrstoRight {s : State} (h : s.hrstoRight) :
    Always State.hrstoRight (execPfailRestart s) := by
  unfold execPfailRestart
  dsimp only
  split
  · exact always_next.2 (State.hrstoRight.of_ctrl (State.beginRecovery_hrstoRight _ .pfail) (State.grant_ctrl _))
  · exact always_next.2 (h.of_ctrl rfl)

theorem execMemoryAccessComplete_hrstoRight (ans : MemAnswer) (o : Order) {s : State} (h : s.hrstoRight) :
    Always State.hrstoRight (execMemoryAccessComplete ans o s) := by
  unfold execMemoryAccessComplete
  split
  · split
    · split
      · have hdone := h.of_ctrl (State.completeAccess_ctrl ‹_›)
        exact always_next.2 ((State.deliver_hrstoRight hdone _ _ o).of_ctrl (State.afterAccess_ctrl _ o))
      · exact always_fault
    · exact always_next.2 h
  · exact always_next.2 h

/-- R152: the end of a REPORT clears the unread flag and leaves the rest of the controller. -/
theorem execReportReadComplete_hrstoRight {s : State} (h : s.hrstoRight) :
    Always State.hrstoRight (execReportReadComplete s) := by
  unfold execReportReadComplete
  dsimp only
  split_ifs <;> exact always_next.2 (h.of_eq rfl rfl)

/-- R189: an effect after which HRSTO# is right leaves it right at the effect point. -/
theorem State.effectPoint_hrstoRight {s : State} (hs : s.hrstoRight) (c : MgmtCommand) (ps : List Byte)
    {act : State → State} (h : (act s).hrstoRight) : Always State.hrstoRight (.next (s.effectPoint c ps act)) :=
  always_next.2 (State.effectPoint_of hs (hs.of_ctrl rfl) fun _ => h)

/-- R167: STORE PROFILE writes the store count of the controller. -/
theorem execStoreProfile_hrstoRight {s : State} (h : s.hrstoRight) :
    Always State.hrstoRight (execStoreProfile s) := by
  refine State.effectPoint_hrstoRight h _ _ ?_
  cases s.stage.lowestFree with
  | some i => exact h.of_eq (by simp) (by simp)
  | none => exact h.of_ctrl rfl

/-- R166: LOAD PROFILE leads to RELOADING. -/
theorem execLoadProfile_hrstoRight {s : State} (h : s.hrstoRight) :
    Always State.hrstoRight (execLoadProfile s) := by
  refine State.effectPoint_hrstoRight h _ _ ?_
  split
  · exact (s.beginLoad_hrstoRight .reloading).of_ctrl (by simp)
  · exact h.of_ctrl rfl

/-- R102: FORMAT begins a format in the operating state that it finds. -/
theorem execFormat_hrstoRight {s : State} (h : s.hrstoRight) : Always State.hrstoRight (execFormat s) :=
  State.effectPoint_hrstoRight h _ _ (h.of_eq (by simp) (by simp))

/-- R126: RESUME leads to RUNNING. -/
theorem execResume_hrstoRight {s : State} (h : s.hrstoRight) : Always State.hrstoRight (execResume s) :=
  State.effectPoint_hrstoRight h _ _ (s.resumeEngines_hrstoRight.of_ctrl (by simp))

/-! ## Every command and the step -/

/-- R135: every command keeps HRSTO# right. -/
theorem exec_hrstoRight (c : Instr) {s : State} (h : s.hrstoRight) : Always State.hrstoRight (exec c s) := by
  cases c with
  | powerUp t => exact execPowerUp_hrstoRight t h
  | supplyLoss ans => exact execSupplyLoss_hrstoRight ans h
  | pfailAssert ans => exact execPfailAssert_hrstoRight ans h
  | pfailRestart => exact execPfailRestart_hrstoRight h
  | hostReset => exact (execHostReset_keepsCtrl s).hrstoRight h
  | hostResetRelease => exact (execHostResetRelease_keepsCtrl s).hrstoRight h
  | hostCycle sel rd wr a d => exact (execHostCycle_keepsCtrl s sel rd wr a d).hrstoRight h
  | hostCycleEnd => exact (execHostCycleEnd_keepsCtrl s).hrstoRight h
  | hostCycleWithdrawn => exact (execHostCycleWithdrawn_keepsCtrl s).hrstoRight h
  | memoryAccessComplete ans o => exact execMemoryAccessComplete_hrstoRight ans o h
  | writerTakeGroup => exact (execWriterTakeGroup_keepsCtrl s).hrstoRight h
  | writerPlace => exact (execWriterPlace_keepsCtrl s).hrstoRight h
  | applierTakeEntry => exact (execApplierTakeEntry_keepsCtrl s).hrstoRight h
  | transactionBegin => exact (execTransactionBegin_keepsCtrl s).hrstoRight h
  | transactionEnd => exact (execTransactionEnd_keepsCtrl s).hrstoRight h
  | badCommand code => exact (execBadCommand_keepsCtrl s code).hrstoRight h
  | status | report | getMask => exact (s.effectPoint_keepsCtrl _ _ rfl).hrstoRight h
  | reportReadComplete => exact execReportReadComplete_hrstoRight h
  | peek => exact (execPeek_keepsCtrl s).hrstoRight h
  | take => exact (execTake_keepsCtrl s).hrstoRight h
  | takeRemove => exact (execTakeRemove_keepsCtrl s).hrstoRight h
  | getRegion index => exact (execGetRegion_keepsCtrl s index).hrstoRight h
  | putRegion index entry => exact (execPutRegion_keepsCtrl s index entry).hrstoRight h
  | slot index => exact (execSlot_keepsCtrl s index).hrstoRight h
  | storeProfile => exact execStoreProfile_hrstoRight h
  | loadProfile => exact execLoadProfile_hrstoRight h
  | format => exact execFormat_hrstoRight h
  | resume => exact execResume_hrstoRight h
  | discardHeld trigger => exact (execDiscardHeld_keepsCtrl s trigger).hrstoRight h
  | mask high low => exact (execMask_keepsCtrl s high low).hrstoRight h
  | setDefault code => exact (execSetDefault_keepsCtrl s code).hrstoRight h

/-- R135: every step keeps HRSTO# right; one without a command leaves the controller. -/
theorem step_hrstoRight {s t : State} (hstep : step s = .next t) (h : s.hrstoRight) : t.hrstoRight := by
  unfold step at hstep
  split at hstep
  · cases hstep
    exact h.of_ctrl (by simp)
  · rename_i c rest _
    exact exec_hrstoRight c (h.of_ctrl rfl : (s.setPending rest).hrstoRight) t hstep

end Sys2Proof.Machine

open Sys2Proof.Machine

/-- Settles O5: every entry to an operating state drives HRSTO# for it, every other operation leaves both, and neither edge of
SRST# touches the controller. -/
theorem hrstoFollowsOperatingState : Obligations.HrstoFollowsOperatingState := by
  refine ⟨fun s t => step_hrstoRight, ?_⟩
  rintro s t (h | h)
  · exact congrArg Controller.hrsto (execHostReset_keepsCtrl s t h)
  · exact congrArg Controller.hrsto (execHostResetRelease_keepsCtrl s t h)
end

section
/-! SUPPORT. The effect point of a command that awaits its command byte, the searches over the slots that find none, and a
RECORD write that finds no slot in RUNNING (R50, R52, R189). -/

namespace Sys2Proof.Machine

/-! ## The effect point (R189) -/

/-- R187: a transaction that awaits its command byte can come to every command and parameters. -/
theorem State.awaits_of_awaitsCommand {s : State} (h : s.awaitsCommand = true) (c : MgmtCommand) (ps : List Byte) :
    s.awaits c ps = true := by
  simp [State.awaits, h]

/-- R189: the command acts in a state that accepts it. -/
theorem State.effectPoint_accepted {s : State} {c : MgmtCommand} {ps : List Byte} {act : State → State}
    (hw : s.awaitsCommand = true) (ha : c.accepted s.ctrl.opState s.ctrl.format.isSome = true) :
    s.effectPoint c ps act = act s := by
  rw [State.effectPoint, if_pos (State.awaits_of_awaitsCommand hw c ps), if_pos ha]

/-- R194: it is answered NOT_NOW in any other. -/
theorem State.effectPoint_notNow {s : State} {c : MgmtCommand} {ps : List Byte} {act : State → State}
    (hw : s.awaitsCommand = true) (ha : c.accepted s.ctrl.opState s.ctrl.format.isSome = false) :
    s.effectPoint c ps act = s.reply c ps .notNow [] := by
  rw [State.effectPoint, if_pos (State.awaits_of_awaitsCommand hw c ps), if_neg (by simp [ha])]

/-- R192: the port shifts out the status of a reply, and FFh for each response byte after any but OK. -/
theorem State.reply_answers (s : State) (c : MgmtCommand) (ps : List Byte) (st : Status) (bs : List Byte) :
    (s.reply c ps st bs).mgmt.answers st.code (if st = .ok then bs else List.replicate c.responseBytes 0xFF) :=
  ⟨rfl, rfl, rfl⟩

/-! ## Searches that find no slot -/

/-- R43: there is no lowest FREE slot exactly where no slot is FREE. -/
theorem Staging.lowestFree_eq_none {g : Staging} : g.lowestFree = none ↔ ∀ k : Fin 8, g.slots[k].state ≠ .free := by
  simp [Staging.lowestFree]

/-- R46: a record without a FILLING slot. -/
theorem Staging.fillingSlot_eq_none {g : Staging} {region : Fin 8} {home : Addr}
    (h : ∀ k : Fin 8, g.slots[k].state = .filling → g.slots[k].ofRecord region home = false) :
    g.fillingSlot region home = none := by
  simpa [Staging.fillingSlot] using h

/-- R50: a QUEUED slot is on its way to FREE. -/
theorem Staging.freeing_of_queued {g : Staging} {i : Fin 8} (h : g.slots[i].state = .queued) : g.freeing = true :=
  List.any_eq_true.2 ⟨i, mem_indices8 i, by rw [h]⟩

/-! ## A RECORD write that finds no slot -/

/-- R50: a write that must allocate is held while no slot is FREE and one is on its way. -/
theorem State.stageWrite_holds {s : State} {r : RecordRef} {i : Fin 8}
    (hfill : ∀ k : Fin 8, (s.slot k).state = .filling → (s.slot k).ofRecord r.region r.home = false)
    (hfree : ∀ k : Fin 8, (s.slot k).state ≠ .free) (hi : (s.slot i).state = .queued) :
    s.stageWrite r = s.holdCycle .slot := by
  unfold State.stageWrite
  rw [Staging.fillingSlot_eq_none hfill, Staging.lowestFree_eq_none.2 hfree]
  exact if_pos (Staging.freeing_of_queued hi)

/-- R26: in RUNNING a captured write of a RECORD address goes to the staging store, with what the decode found. -/
theorem State.serve_recordWrite {s : State} {r : RecordRef} (ho : s.ctrl.opState = .running)
    (hk : s.host.kind = .write) (hr : (s.lookup s.host.addr.toNat).ref = some r) :
    s.serve = (s.setHost { s.host with found := some (s.lookup s.host.addr.toNat) }).stageWrite r := by
  obtain ⟨hcls, -⟩ := State.lookup_ref_cases hr
  simp [State.serve, State.serveRunning, ho, hcls, hr, hk]

/-- R33: a write in the slot hold is served afresh in RUNNING. -/
theorem State.redecodeHeld_of_holdsForSlot {s : State} (h : s.holdsForSlot) : s.redecodeHeld = s.serve := by
  obtain ⟨ho, hp, hh, -⟩ := h
  simp [State.redecodeHeld, ho, hp, hh]

/-- R52: a write in the slot hold that must allocate is held again while no slot is FREE and one is on its way: only what the
decode found can change. -/
theorem State.redecodeHeld_heldAgain {s : State} {r : RecordRef} {i : Fin 8} (h : s.holdsForSlot)
    (hr : (s.lookup s.host.addr.toNat).ref = some r)
    (hfill : ∀ k : Fin 8, (s.slot k).state = .filling → (s.slot k).ofRecord r.region r.home = false)
    (hfree : ∀ k : Fin 8, (s.slot k).state ≠ .free) (hi : (s.slot i).state = .queued) :
    s.redecodeHeld
      = (s.setHost { s.host with found := some (s.lookup s.host.addr.toNat) }).holdCycle .slot := by
  have ⟨ho, _, _, hk⟩ := h
  rw [State.redecodeHeld_of_holdsForSlot h, State.serve_recordWrite ho hk hr]
  exact State.stageWrite_holds hfill hfree hi

end Sys2Proof.Machine
end

section
/-! SUPPORT. What STORE PROFILE does with the slot that it takes, and its three answers (R167). -/

namespace Sys2Proof.Machine

/-! ## The slot of the profile image -/

/-- R167: the slot that STORE PROFILE takes, as it leaves it. -/
def State.profileSlot (s : State) (i : Fin 8) : Slot where
  state := .queued
  region := .profile
  home := some (toAddr (s.base + 32))
  length := 72
  image := s.table.fillImage (s.ctrl.lastCount + 1) (s.slot i).image
  written := BitVec.ofNat 128 (2 ^ 72 - 1)
  openNumber := s.stage.openCounter
  waitsOn := none
  group := some i

/-- R167: the slot taken. -/
@[simp] theorem State.queueProfile_slot_same (s : State) (i : Fin 8) :
    (s.queueProfile i).slot i = s.profileSlot i :=
  s.stage.setSlot_same i _

/-- R167: every other slot. -/
theorem State.queueProfile_slot_other (s : State) {i k : Fin 8} (h : k ≠ i) :
    (s.queueProfile i).slot k = s.slot k :=
  s.stage.setSlot_other _ h

/-- R55, R167: the rest of the staging store: the queue gains a group of one, and the opening is counted. -/
theorem State.queueProfile_stage (s : State) (i : Fin 8) :
    (s.queueProfile i).stage.queue = s.stage.queue ++ [{ tag := i, slots := [i] }]
      ∧ (s.queueProfile i).stage.openCounter = s.stage.openCounter + 1
      ∧ (s.queueProfile i).stage.held = s.stage.held ∧ (s.queueProfile i).stage.chain = s.stage.chain :=
  ⟨rfl, rfl, rfl, rfl⟩

/-- R167: with the reply only the management port, the staging store and the store count change. -/
theorem State.queueProfile_reply_eq (s : State) (i : Fin 8) (c : MgmtCommand) (ps : List Byte) (st : Status)
    (bs : List Byte) :
    (s.queueProfile i).reply c ps st bs
      = ((s.setMgmt ((s.queueProfile i).reply c ps st bs).mgmt).setStage (s.queueProfile i).stage).setCtrl
          { s.ctrl with lastCount := s.ctrl.lastCount + 1 } := rfl

/-- R167: all 72 bytes count as written. -/
theorem State.profileSlot_written (s : State) (i : Fin 8) {k : Nat} (h : k < 72) :
    (s.profileSlot i).written.getLsbD k = true := by
  simp only [State.profileSlot, BitVec.getLsbD_ofNat, Nat.testBit_two_pow_sub_one, Bool.and_eq_true,
    decide_eq_true_eq]
  omega

/-- R159, R167: the first 72 bytes of IMAGE are the profile image of the live configuration with the next store count. -/
theorem State.profileSlot_byte (s : State) (i : Fin 8) {k : Nat} (h : k < 72) :
    (s.profileSlot i).byte k
      = byteAt (profileImage (s.ctrl.lastCount + 1) s.table.defaultClass s.table.mask s.table.entries) k := by
  have h128 : k < 128 := by omega
  simp [State.profileSlot, Slot.byte, RegionTable.fillImage, h, h128]

/-- R167: where slot `i` was the only FREE slot, none is FREE after. -/
theorem State.queueProfile_noneFree {s : State} {i : Fin 8} (h : ∀ k : Fin 8, k ≠ i → (s.slot k).state ≠ .free)
    (k : Fin 8) : ((s.queueProfile i).slot k).state ≠ .free := by
  by_cases hk : k = i
  · subst hk
    simp [State.profileSlot]
  · rw [s.queueProfile_slot_other hk]
    exact h k hk

/-- R46, R167: a record without a FILLING slot gains none. -/
theorem State.queueProfile_notFilling {s : State} (i : Fin 8) {region : Fin 8} {home : Addr}
    (h : ∀ k : Fin 8, (s.slot k).state = .filling → (s.slot k).ofRecord region home = false) (k : Fin 8)
    (hk : ((s.queueProfile i).slot k).state = .filling) :
    ((s.queueProfile i).slot k).ofRecord region home = false := by
  by_cases hki : k = i
  · subst hki
    simp [State.profileSlot] at hk
  · rw [s.queueProfile_slot_other hki] at hk ⊢
    exact h k hk

/-! ## The answers of STORE PROFILE -/

/-- R194: outside RUNNING STORE PROFILE answers NOT_NOW. -/
theorem execStoreProfile_notRunning {s : State} (hw : s.awaitsCommand = true) (ho : s.ctrl.opState ≠ .running) :
    execStoreProfile s = .next (s.reply .storeProfile [] .notNow []) := by
  rw [execStoreProfile, State.effectPoint_notNow hw (by simpa [MgmtCommand.accepted] using ho)]

section
variable {s : State} (hw : s.awaitsCommand = true) (ho : s.ctrl.opState = .running)
include hw ho

/-- R167: in RUNNING with no slot FREE it answers NO_SLOT. -/
theorem execStoreProfile_noSlot (h : ∀ k : Fin 8, (s.slot k).state ≠ .free) :
    execStoreProfile s = .next (s.reply .storeProfile [] .noSlot []) := by
  rw [execStoreProfile, State.effectPoint_accepted hw (by simp [MgmtCommand.accepted, ho]),
    Staging.lowestFree_eq_none.2 h]

/-- R167: in RUNNING with a slot FREE the lowest takes the profile image, and a write in the slot hold is decoded afresh. -/
theorem execStoreProfile_queues {i : Fin 8} (hi : (s.slot i).state = .free)
    (hl : ∀ k : Fin 8, k < i → (s.slot k).state ≠ .free) :
    execStoreProfile s
      = .next ((s.queueProfile i).reply .storeProfile [] .ok []).redecodeHeld.grant := by
  rw [execStoreProfile, State.effectPoint_accepted hw (by simp [MgmtCommand.accepted, ho]),
    Staging.lowestFree_eq hi hl]

end

/-- R52, R167: a write in the slot hold that must allocate stays held when STORE PROFILE has taken the only FREE slot. The
straps, the table and the host port, which its lookup reads, have stayed. -/
theorem State.storeProfile_heldAgain {s : State} {i : Fin 8} {r : RecordRef}
    (hl : ∀ k : Fin 8, k ≠ i → (s.slot k).state ≠ .free) (hh : s.holdsForSlot)
    (hr : (s.lookup s.host.addr.toNat).ref = some r)
    (hfill : ∀ k : Fin 8, (s.slot k).state = .filling → (s.slot k).ofRecord r.region r.home = false) :
    ((s.queueProfile i).reply .storeProfile [] .ok []).redecodeHeld
      = (((s.queueProfile i).reply .storeProfile [] .ok []).setHost
          { s.host with found := some (s.lookup s.host.addr.toNat) }).holdCycle .slot :=
  State.redecodeHeld_heldAgain (s := (s.queueProfile i).reply .storeProfile [] .ok []) hh hr
    (State.queueProfile_notFilling i hfill) (State.queueProfile_noneFree hl)
    (congrArg Slot.state (s.queueProfile_slot_same i))

end Sys2Proof.Machine

open Sys2Proof.Machine

/-- Settles O57: the effect point of STORE PROFILE has three answers. NOT_NOW and NO_SLOT write the management port alone; OK
queues the profile slot, after which a write in the slot hold finds no FREE slot and one QUEUED, and is held again. -/
theorem storeProfileQueuesImage : Obligations.StoreProfileQueuesImage := by
  refine ⟨fun s hw ho => ?notNow, fun s hw ho => ⟨fun i hi hl hh => ?queued, ?held, fun hn => ?noSlot⟩⟩
  case notNow => exact ⟨_, execStoreProfile_notRunning hw ho, s.reply_answers _ _ _ _⟩
  case noSlot => exact ⟨_, execStoreProfile_noSlot hw ho hn, s.reply_answers _ _ _ _⟩
  case queued =>
    obtain ⟨hqueue, hopen, hheld, hchain⟩ := s.queueProfile_stage i
    refine ⟨_, (s.queueProfile i).stage, s.profileSlot i, ?_,
      (s.queueProfile i).reply_answers .storeProfile [] .ok [], s.queueProfile_slot_same i,
      fun k hk => s.queueProfile_slot_other hk, rfl, rfl, rfl, rfl, rfl, rfl, rfl,
      fun k => s.profileSlot_written i, fun k => s.profileSlot_byte i, hqueue, hopen, hheld, hchain⟩
    refine (execStoreProfile_queues hw ho hi hl).trans ?_
    rw [State.redecodeHeld_of_hold (s := (s.queueProfile i).reply .storeProfile [] .ok []) hh]
    exact congrArg (Host.Outcome.next ·.grant) (s.queueProfile_reply_eq i .storeProfile [] .ok [])
  case held =>
    intro i r hi hl hh hr hfill
    have hagain := State.storeProfile_heldAgain hl hh hr hfill
    refine ⟨_, execStoreProfile_queues hw ho hi fun k hk => hl k hk.ne, ?_⟩
    obtain ⟨p, hp, -⟩ := State.grant_port_only
      (s := ((s.queueProfile i).reply .storeProfile [] .ok []).redecodeHeld)
      (by simp [hagain, State.holdCycle])
    have hslot := s.queueProfile_slot_same i
    rw [hp, hagain]
    exact ⟨⟨rfl, rfl, rfl⟩, congrArg Slot.state hslot, congrArg Slot.region hslot, rfl, rfl, rfl, rfl, rfl⟩
end

section
/-! SUPPORT. The replies of GET REGION, SLOT and GET MASK in the states that accept them (R17, R66, R198), and the states that
do not (R194). -/

namespace Sys2Proof.Machine

/-! ## The states that accept a reading command (R194) -/

/-- R194: GET REGION, SLOT and GET MASK are accepted once start-up is over, also during a format. -/
theorem MgmtCommand.accepted_of_read {c : MgmtCommand} (hc : c ∈ [MgmtCommand.getRegion, .slot, .getMask]) {o : OpState}
    (ho : o ∈ [OpState.running, .reloading, .locked, .faulted]) (formatting : Bool) :
    c.accepted o formatting = true := by
  have hread : c = .getRegion ∨ c = .slot ∨ c = .getMask := by simpa using hc
  rcases hread with rfl | rfl | rfl <;> simpa [MgmtCommand.accepted, or_assoc] using ho

/-- R194: they are not accepted in the start-up states. -/
theorem MgmtCommand.not_accepted_of_read {c : MgmtCommand} (hc : c ∈ [MgmtCommand.getRegion, .slot, .getMask])
    {o : OpState} (ho : o ∈ [OpState.starting, .recovering, .initload]) (formatting : Bool) :
    c.accepted o formatting = false := by
  have hread : c = .getRegion ∨ c = .slot ∨ c = .getMask := by simpa using hc
  have hstart : o = .starting ∨ o = .recovering ∨ o = .initload := by simpa using ho
  rcases hread with rfl | rfl | rfl <;> rcases hstart with rfl | rfl | rfl <;> rfl

/-! ## What they answer (R17, R66, R198) -/

section
variable {s : State} (hw : s.awaitsCommand = true)
include hw

/-- R194: a reading command in a start-up state only writes the port, with NOT_NOW. -/
theorem State.effectPoint_read_startUp {c : MgmtCommand} (hc : c ∈ [MgmtCommand.getRegion, .slot, .getMask])
    (ho : s.ctrl.opState ∈ [OpState.starting, .recovering, .initload]) (ps : List Byte) (act : State → State) :
    ∃ m, Host.Outcome.next (s.effectPoint c ps act) = (.next (s.setMgmt m) : Host.Outcome State Fault Refusal)
      ∧ m.answers 0x10 (List.replicate c.responseBytes 0xFF) :=
  ⟨_, congrArg _ (State.effectPoint_notNow hw (MgmtCommand.not_accepted_of_read hc ho _)), s.reply_answers c ps .notNow []⟩

variable (ho : s.ctrl.opState ∈ [OpState.running, .reloading, .locked, .faulted])
include ho

/-- R189, R194: past start-up a reading command acts. -/
theorem State.effectPoint_read {c : MgmtCommand} (hc : c ∈ [MgmtCommand.getRegion, .slot, .getMask]) (ps : List Byte)
    (act : State → State) : s.effectPoint c ps act = act s :=
  State.effectPoint_accepted hw (MgmtCommand.accepted_of_read hc ho _)

/-- R198: GET REGION reads the entry of an index in range. -/
theorem execGetRegion_inRange {b : Byte} {i : Fin 8} (hb : b.toNat = i.val) :
    exec (.getRegion (some b)) s = .next (s.reply .getRegion [b] .ok (encodeEntry s.table.entries[i])) := by
  change Host.Outcome.next (s.effectPoint _ _ _) = _
  rw [State.effectPoint_read hw ho (by simp), index8_of_eq hb]

/-- R198: GET REGION refuses an index above 7. -/
theorem execGetRegion_outOfRange {b : Byte} (hb : 8 ≤ b.toNat) :
    exec (.getRegion (some b)) s = .next (s.reply .getRegion [b] .badArg []) := by
  change Host.Outcome.next (s.effectPoint _ _ _) = _
  rw [State.effectPoint_read hw ho (by simp), index8_of_le hb]

/-- R66, R198: SLOT reads the eight bytes of a slot in range. -/
theorem execSlot_inRange {b : Byte} {i : Fin 8} (hb : b.toNat = i.val) :
    exec (.slot (some b)) s = .next (s.reply .slot [b] .ok (s.slot i).bytes) := by
  change Host.Outcome.next (s.effectPoint _ _ _) = _
  rw [State.effectPoint_read hw ho (by simp), index8_of_eq hb]

/-- R198: SLOT refuses a slot number above 7. -/
theorem execSlot_outOfRange {b : Byte} (hb : 8 ≤ b.toNat) :
    exec (.slot (some b)) s = .next (s.reply .slot [b] .badArg []) := by
  change Host.Outcome.next (s.effectPoint _ _ _) = _
  rw [State.effectPoint_read hw ho (by simp), index8_of_le hb]

/-- R198: GET MASK reads the interrupt mask. -/
theorem execGetMask_accepted :
    exec .getMask s = .next (s.reply .getMask [] .ok (bytes16 s.table.mask)) := by
  change Host.Outcome.next (s.effectPoint _ _ _) = _
  rw [State.effectPoint_read hw ho (by simp)]

end

/-- R18, R19: a legal table is empty in the start-up states. -/
theorem State.tableLegal.empty_of_startUp {s : State} (h : s.tableLegal)
    (ho : s.ctrl.opState ∈ [OpState.starting, .recovering, .initload]) (i : Fin 8) :
    s.table.entries[i] = RegionEntry.invalid :=
  (State.tableLegal_iff.1 h).2 (List.mem_append_left [OpState.reloading, .locked] ho) i

end Sys2Proof.Machine

open Sys2Proof.Machine

/-- Settles O52: past start-up each of the three acts at its effect point, and the act is a reply, which writes the management
port alone; in a start-up state the effect point itself replies NOT_NOW. -/
theorem configurationReadsChangeNothing : Obligations.ConfigurationReadsChangeNothing := by
  refine fun s hw => ⟨fun ho => ⟨fun b i hb => ⟨?region, ?slot⟩, fun b hb => ⟨?noRegion, ?noSlot⟩, ?mask⟩,
    fun ho => ⟨fun b => ?regionNotNow, fun b => ?slotNotNow, ?maskNotNow, fun h => h.empty_of_startUp ho⟩⟩
  case region => exact ⟨_, execGetRegion_inRange hw ho hb, s.reply_answers _ _ _ _⟩
  case slot =>
    refine ⟨_, execSlot_inRange hw ho hb, rfl, rfl, ?_⟩
    change (s.slot i).bytes = _
    cases hr : (s.slot i).region <;> cases hh : (s.slot i).home <;> simp only [Slot.bytes, hr, hh] <;> rfl
  case noRegion => exact ⟨_, execGetRegion_outOfRange hw ho hb, s.reply_answers _ _ _ _⟩
  case noSlot => exact ⟨_, execSlot_outOfRange hw ho hb, s.reply_answers _ _ _ _⟩
  case mask => exact ⟨_, execGetMask_accepted hw ho, s.reply_answers _ _ _ _⟩
  case regionNotNow => exact State.effectPoint_read_startUp hw (by simp) ho [b] _
  case slotNotNow => exact State.effectPoint_read_startUp hw (by simp) ho [b] _
  case maskNotNow => exact State.effectPoint_read_startUp hw (by simp) ho [] _
end

section
/-! SUPPORT. The commands that write the pins, the table, the events, the report and the management port alone, and the step as
one command or one bit time. -/

namespace Sys2Proof

/-- The commands that leave the supply, the host port, the memory port, the staging store, the engines and the operating state
(R190, R195 to R199). -/
def Instr.quiet : Instr → Bool
  | .hostResetRelease | .transactionBegin | .transactionEnd | .badCommand _ | .status | .report | .reportReadComplete
  | .peek | .take | .takeRemove | .getRegion _ | .putRegion _ _ | .slot _ | .mask _ _ | .setDefault _ | .getMask => true
  | .powerUp _ | .supplyLoss _ | .pfailAssert _ | .pfailRestart | .hostReset | .hostCycle _ _ _ _ _ | .hostCycleEnd
  | .hostCycleWithdrawn | .memoryAccessComplete _ _ | .writerTakeGroup | .writerPlace | .applierTakeEntry
  | .storeProfile | .loadProfile | .format | .resume | .discardHeld _ => false

end Sys2Proof

namespace Sys2Proof.Machine

/-- From `s` to `t` only the pins, the table, the events, the report, the management port and the queue of commands can have
changed, and the management port not in FROZEN while it is BLOCKED. -/
structure State.quietTo (s t : State) : Prop where
  supply : t.supply = s.supply
  stage : t.stage = s.stage
  journal : t.journal = s.journal
  writer : t.writer = s.writer
  applier : t.applier = s.applier
  host : t.host = s.host
  port : t.port = s.port
  mem : t.mem = s.mem
  opState : t.ctrl.opState = s.ctrl.opState
  cause : t.ctrl.cause = s.ctrl.cause
  straps : t.ctrl.straps = s.ctrl.straps
  blocked : s.ctrl.opState = .frozen → s.mgmt.phase = .blocked → t.mgmt.phase = .blocked

theorem State.quietTo_refl (s : State) : s.quietTo s :=
  ⟨rfl, rfl, rfl, rfl, rfl, rfl, rfl, rfl, rfl, rfl, rfl, fun _ h => h⟩

/-- R187: no transaction comes to a command in FROZEN. -/
theorem State.awaits_not_frozen {s : State} {c : MgmtCommand} {ps : List Byte} (h : s.awaits c ps = true) :
    s.ctrl.opState ≠ .frozen := by
  simp only [State.awaits, State.awaitsCommand, Bool.or_eq_true, Bool.and_eq_true, bne_iff_ne, beq_iff_eq] at h
  rcases h with ⟨-, h⟩ | ⟨⟨⟨⟨-, h⟩, -⟩, -⟩, -⟩ <;> exact h

section
variable (s : State)

/-- R189: an effect point is quiet when the command's own effect is. -/
theorem State.effectPoint_quietTo (c : MgmtCommand) (ps : List Byte) {act : State → State}
    (h : s.ctrl.opState ≠ .frozen → s.quietTo (act s)) : Always s.quietTo (.next (s.effectPoint c ps act)) := by
  rw [always_next, State.effectPoint]
  split
  · have hf := State.awaits_not_frozen ‹_›
    split
    · exact h hf
    · exact ⟨rfl, rfl, rfl, rfl, rfl, rfl, rfl, rfl, rfl, rfl, rfl, fun h _ => absurd h hf⟩
  · exact s.quietTo_refl

theorem State.takeBytes_quietTo (c : MgmtCommand) (ps : List Byte) : Always s.quietTo (.next (s.takeBytes c ps)) := by
  rw [always_next, State.takeBytes]
  split
  · exact ⟨rfl, rfl, rfl, rfl, rfl, rfl, rfl, rfl, rfl, rfl, rfl, fun h _ => absurd h (State.awaits_not_frozen ‹_›)⟩
  · exact s.quietTo_refl

theorem State.reply_quietTo (hf : s.ctrl.opState ≠ .frozen) (c : MgmtCommand) (ps : List Byte) (st : Status)
    (bs : List Byte) : s.quietTo (s.reply c ps st bs) :=
  ⟨rfl, rfl, rfl, rfl, rfl, rfl, rfl, rfl, rfl, rfl, rfl, fun h _ => absurd h hf⟩

theorem execTransactionBegin_quietTo : Always s.quietTo (execTransactionBegin s) := by
  unfold execTransactionBegin
  dsimp only
  split
  · rename_i h
    refine always_next.2 ⟨rfl, rfl, rfl, rfl, rfl, rfl, rfl, rfl, rfl, rfl, rfl, fun _ hb => ?_⟩
    simp [hb] at h
  · exact always_next.2 ⟨rfl, rfl, rfl, rfl, rfl, rfl, rfl, rfl, rfl, rfl, rfl, fun _ h => h⟩

theorem execTransactionEnd_quietTo : Always s.quietTo (execTransactionEnd s) := by
  unfold execTransactionEnd
  dsimp only
  split
  · rename_i h
    refine always_next.2 ⟨rfl, rfl, rfl, rfl, rfl, rfl, rfl, rfl, rfl, rfl, rfl, fun hf _ => ?_⟩
    simp [hf] at h
  · exact always_next.2 ⟨rfl, rfl, rfl, rfl, rfl, rfl, rfl, rfl, rfl, rfl, rfl, fun _ h => h⟩

theorem execBadCommand_quietTo (code : Byte) : Always s.quietTo (execBadCommand code s) := by
  unfold execBadCommand
  split
  · exact always_refused
  · split
    · rename_i h
      refine always_next.2 ⟨rfl, rfl, rfl, rfl, rfl, rfl, rfl, rfl, rfl, rfl, rfl, fun hf _ => ?_⟩
      simp [State.awaitsCommand, hf] at h
    · exact always_next.2 s.quietTo_refl

/-- R191: a result is shifted out in RESULT, so not by a BLOCKED port. -/
theorem State.shiftingOut_not_frozen {c : MgmtCommand} (h : s.shiftingOut c = true) : s.ctrl.opState ≠ .frozen := by
  simp only [State.shiftingOut, Bool.and_eq_true, bne_iff_ne] at h
  exact h.1.1.2

theorem execReportReadComplete_quietTo : Always s.quietTo (execReportReadComplete s) := by
  unfold execReportReadComplete
  dsimp only
  split
  · have hf := s.shiftingOut_not_frozen ‹_›
    split <;>
      exact always_next.2 ⟨rfl, rfl, rfl, rfl, rfl, rfl, rfl, rfl, rfl, rfl, rfl, fun h _ => absurd h hf⟩
  · exact always_next.2 s.quietTo_refl

theorem execTakeRemove_quietTo : Always s.quietTo (execTakeRemove s) := by
  unfold execTakeRemove
  dsimp only
  split
  · have hf := s.shiftingOut_not_frozen ‹_›
    split <;>
      exact always_next.2 ⟨rfl, rfl, rfl, rfl, rfl, rfl, rfl, rfl, rfl, rfl, rfl, fun h _ => absurd h hf⟩
  · exact always_next.2 s.quietTo_refl

theorem State.replyHead_quietTo (hf : s.ctrl.opState ≠ .frozen) (c : MgmtCommand) : s.quietTo (s.replyHead c) := by
  unfold State.replyHead
  split <;> exact s.reply_quietTo hf _ _ _ _

theorem execPutRegion_quietTo (index : Option Byte) (entry : EntryArg) :
    Always s.quietTo (execPutRegion index entry s) := by
  cases index with
  | none => exact s.takeBytes_quietTo _ _
  | some b =>
    cases entry with
    | first e n => exact s.takeBytes_quietTo _ _
    | whole e =>
      refine s.effectPoint_quietTo _ _ fun hf => ?_
      cases index8 b with
      | none => exact s.reply_quietTo hf _ _ _ _
      | some i =>
        dsimp only
        split <;> exact ⟨rfl, rfl, rfl, rfl, rfl, rfl, rfl, rfl, rfl, rfl, rfl, fun h _ => absurd h hf⟩

/-- A quiet command leaves what `State.quietTo` says. -/
theorem exec_quietTo (c : Instr) (hc : c.quiet = true) : Always s.quietTo (exec c s) := by
  cases c with
  | hostResetRelease => exact always_next.2 ⟨rfl, rfl, rfl, rfl, rfl, rfl, rfl, rfl, rfl, rfl, rfl, fun _ h => h⟩
  | transactionBegin => exact execTransactionBegin_quietTo s
  | transactionEnd => exact execTransactionEnd_quietTo s
  | badCommand code => exact execBadCommand_quietTo s code
  | status | report | getMask => exact s.effectPoint_quietTo _ _ fun hf => s.reply_quietTo hf _ _ _ _
  | reportReadComplete => exact execReportReadComplete_quietTo s
  | peek | take => exact s.effectPoint_quietTo _ _ fun hf => s.replyHead_quietTo hf _
  | takeRemove => exact execTakeRemove_quietTo s
  | getRegion index | slot index =>
    cases index with
    | none => exact s.takeBytes_quietTo _ _
    | some b =>
      refine s.effectPoint_quietTo _ _ fun hf => ?_
      cases index8 b <;> exact s.reply_quietTo hf _ _ _ _
  | putRegion index entry => exact execPutRegion_quietTo s index entry
  | mask high low =>
    cases high with
    | none => exact s.takeBytes_quietTo _ _
    | some h =>
      cases low with
      | none => exact s.takeBytes_quietTo _ _
      | some l =>
        exact s.effectPoint_quietTo _ _ fun hf =>
          ⟨rfl, rfl, rfl, rfl, rfl, rfl, rfl, rfl, rfl, rfl, rfl, fun h _ => absurd h hf⟩
  | setDefault code =>
    cases code with
    | none => exact s.takeBytes_quietTo _ _
    | some b =>
      refine s.effectPoint_quietTo _ _ fun hf => ?_
      cases defaultClassOfCode b <;>
        exact ⟨rfl, rfl, rfl, rfl, rfl, rfl, rfl, rfl, rfl, rfl, rfl, fun h _ => absurd h hf⟩
  | _ => cases hc

end

/-- R187: a bit time leaves a BLOCKED port. -/
theorem MgmtPort.bitTime_of_blocked {m : MgmtPort} (h : m.phase = .blocked) : m.bitTime = m := by
  simp [MgmtPort.bitTime, h]

/-- R187: a step without a command is quiet. -/
theorem State.tick_quietTo (s : State) : s.quietTo s.tick := by
  unfold State.tick
  split
  · exact ⟨rfl, rfl, rfl, rfl, rfl, rfl, rfl, rfl, rfl, rfl, rfl,
      fun _ h => by rw [State.setMgmt_mgmt, MgmtPort.bitTime_of_blocked h]; exact h⟩
  · exact s.quietTo_refl

/-- Taking a command from the queue is quiet. -/
theorem State.setPending_quietTo (s : State) (q : List Instr) : s.quietTo (s.setPending q) :=
  ⟨rfl, rfl, rfl, rfl, rfl, rfl, rfl, rfl, rfl, rfl, rfl, fun _ h => h⟩

/-- An invariant that quiet changes and every command keep is kept by every step. -/
theorem step_keeps {P : State → Prop} (hq : ∀ {s t : State}, s.quietTo t → P s → P t)
    (hx : ∀ (c : Instr) {s : State}, P s → Always P (exec c s)) {s t : State} (hstep : step s = .next t) (h : P s) :
    P t := by
  unfold step at hstep
  split at hstep
  · cases hstep
    exact hq s.tick_quietTo h
  · exact hx _ (hq (s.setPending_quietTo _) h) t hstep

end Sys2Proof.Machine
end

section
/-! SUPPORT. The rules of the staging store on the store alone: who holds each slot, what the chain lists, and how each
operation on the slots keeps both (R42, R45, R46, R55, R57, R68, R91). -/

namespace Sys2Proof.Machine

/-! ## The rules of the store -/

/-- R42, R45, R57: slot `i` stands where its state says, with the Writer holding the slots `w` and the live entries the slots
`j`; a FREE slot is cleared, and the chain lists the live record slots. -/
structure Staging.Placed (g : Staging) (w j : List (Fin 8)) (i : Fin 8) : Prop where
  queued : g.slots[i].state = .queued ↔ i ∈ g.queued
  writing : g.slots[i].state = .writing ↔ i ∈ w
  logged : g.slots[i].state = .logged ∨ g.slots[i].state = .applying ↔ i ∈ j
  held : ∀ t : Fin 8, g.slots[i].state = .held ∧ g.slots[i].waitsOn = some t ↔ i ∈ g.held[t]
  waits : g.slots[i].state = .held → g.slots[i].waitsOn ≠ none
  cleared : g.slots[i].state = .free → g.slots[i] = Slot.cleared g.slots[i].image
  chain : i ∈ g.chain ↔ g.slots[i].state ≠ .free ∧ g.slots[i].region ≠ .profile

/-- R46: a record has at most one FILLING slot. -/
def Staging.fillingUnique (g : Staging) : Prop :=
  ∀ i k : Fin 8, g.slots[i].state = .filling → g.slots[k].state = .filling →
    g.slots[i].region = g.slots[k].region → g.slots[i].home = g.slots[k].home → i = k

/-- R42, R45, R46, R55, R57, R68, R91: the staging store keeps its rules, with the Writer holding the slots `w` and the live
entries the slots `j`. -/
structure Staging.Right (g : Staging) (w j : List (Fin 8)) : Prop where
  placed : ∀ i : Fin 8, g.Placed w j i
  filling : g.fillingUnique
  queuedNodup : g.queued.Nodup
  writerNodup : w.Nodup
  journalNodup : j.Nodup
  heldNodup : ∀ t : Fin 8, g.held[t].Nodup
  heldLength : ∀ t : Fin 8, g.held[t].length ≤ 3
  sized : ∀ x ∈ g.queue, x.sized
  chainNodup : g.chain.Nodup

/-- The rules of the staging store, block by block. -/
theorem State.stagingRight_iff {s : State} :
    s.stagingRight ↔ s.stage.Right s.writer.slots s.journal.slots ∧ (∀ e ∈ s.journal.live, e.group.sized)
      ∧ (∀ g, s.writer.group = some g → g.sized) ∧ (s.writer.phase = .idle ↔ s.writer.group = none)
      ∧ (s.ctrl.opState.unloaded → ∀ i : Fin 8, (s.slot i).state = .free) := by
  constructor
  · rintro ⟨⟨hq, hw, hj, hh, hwait, hqn, hwn, hjn, hhn⟩, ⟨hs, hes, hws, hph⟩, ⟨hc, hf, hch, hcn⟩, hfree⟩
    exact ⟨⟨fun i => ⟨hq i, hw i, hj i, hh i, hwait i, hc i, hch i⟩, hf, hqn, hwn, hjn, fun t => (hhn t).1,
      fun t => (hhn t).2, hs, hcn⟩, hes, hws, hph, hfree⟩
  · rintro ⟨h, hes, hws, hph, hfree⟩
    exact ⟨⟨fun i => (h.placed i).queued, fun i => (h.placed i).writing, fun i => (h.placed i).logged,
      fun i => (h.placed i).held, fun i => (h.placed i).waits, h.queuedNodup, h.writerNodup, h.journalNodup,
      fun t => ⟨h.heldNodup t, h.heldLength t⟩⟩, ⟨h.sized, hes, hws, hph⟩,
      ⟨fun i => (h.placed i).cleared, h.filling, fun i => (h.placed i).chain, h.chainNodup⟩, hfree⟩

/-- R46: where only slots outside FILLING are new, a record has no second FILLING slot. -/
theorem Staging.fillingUnique.of_subset {g g' : Staging} (h : g.fillingUnique)
    (hs : ∀ i : Fin 8, g'.slots[i].state = .filling → g.slots[i].state = .filling
      ∧ g'.slots[i].region = g.slots[i].region ∧ g'.slots[i].home = g.slots[i].home) : g'.fillingUnique := by
  intro i k hi hk hr hh
  obtain ⟨hi', hri, hhi⟩ := hs i hi
  obtain ⟨hk', hrk, hhk⟩ := hs k hk
  exact h i k hi' hk' (by rw [← hri, hr, hrk]) (by rw [← hhi, hh, hhk])

/-- R46: slots that leave FILLING bring no second FILLING slot. -/
theorem Staging.fillingUnique.of_moved {g g' : Staging} (h : g.fillingUnique) {is : List (Fin 8)}
    (hin : ∀ k ∈ is, g'.slots[k].state ≠ .filling) (hout : ∀ k, k ∉ is → g'.slots[k] = g.slots[k]) :
    g'.fillingUnique :=
  h.of_subset fun k hk => by
    have he := hout k fun hm => hin k hm hk
    exact ⟨he ▸ hk, by rw [he], by rw [he]⟩

/-- R41: `y` differs from `x` in its bytes alone, and a FREE slot in IMAGE alone. -/
def Slot.sameButBytes (x y : Slot) : Prop :=
  y.state = x.state ∧ y.region = x.region ∧ y.home = x.home ∧ y.length = x.length ∧ y.openNumber = x.openNumber
    ∧ y.waitsOn = x.waitsOn ∧ y.group = x.group ∧ (x.state = .free → y.written = x.written)

/-- R45: a cleared slot with another IMAGE is cleared. -/
theorem Slot.sameButBytes.cleared {x y : Slot} (h : x.sameButBytes y) (hx : x = Slot.cleared x.image) :
    y = Slot.cleared y.image := by
  obtain ⟨image, rfl⟩ : ∃ image, x = Slot.cleared image := ⟨_, hx⟩
  obtain ⟨hst, hre, hho, hle, hop, hwa, hgr, hwr⟩ := h
  have hw := hwr rfl
  obtain ⟨⟩ := y
  simp only at hst hre hho hle hop hwa hgr hw
  rw [hst, hre, hho, hle, hop, hwa, hgr, hw]
  rfl

/-- R55, R71: what forming a group does to each slot and to the queue. -/
theorem Staging.enqueue_cases (g : Staging) (tag : Fin 8) (is : List (Fin 8)) :
    (∀ k ∈ is, (g.enqueue tag is).slots[k] = { g.slots[k] with state := .queued, waitsOn := none, group := some tag })
      ∧ (∀ k, k ∉ is → (g.enqueue tag is).slots[k] = g.slots[k])
      ∧ (g.enqueue tag is).queue = g.queue ++ [{ tag := tag, slots := is }] ∧ (g.enqueue tag is).held = g.held
      ∧ (g.enqueue tag is).chain = g.chain ∧ (g.enqueue tag is).openCounter = g.openCounter := by
  have fold : ∀ g : Staging, ∀ g', g' = is.foldl
      (fun g i => g.setSlot i { g.slots[i] with state := .queued, waitsOn := none, group := some tag }) g →
      (∀ k ∈ is, g'.slots[k] = { g.slots[k] with state := .queued, waitsOn := none, group := some tag })
        ∧ (∀ k, k ∉ is → g'.slots[k] = g.slots[k])
        ∧ g'.queue = g.queue ∧ g'.held = g.held ∧ g'.chain = g.chain ∧ g'.openCounter = g.openCounter := by
    induction is with
    | nil => rintro g _ rfl; simp
    | cons j is ih =>
      rintro g _ rfl
      rw [List.foldl_cons]
      obtain ⟨hin, hout, hq, hh, hc, ho⟩ := ih _ _ rfl
      have hsame := g.setSlot_same j { g.slots[j] with state := .queued, waitsOn := none, group := some tag }
      have hother := fun k hk => g.setSlot_other (i := j) (k := k)
        { g.slots[j] with state := .queued, waitsOn := none, group := some tag } hk
      refine ⟨fun k hk => ?_, fun k hk => ?_, hq, hh, hc, ho⟩
      · by_cases hm : k ∈ is
        · rw [hin k hm]
          by_cases hj : k = j
          · subst hj
            rw [hsame]
          · rw [hother k hj]
        · obtain rfl : k = j := by simpa [hm] using hk
          rw [hout k hm, hsame]
      · rw [List.mem_cons, not_or] at hk
        rw [hout k hk.2, hother k hk.1]
  obtain ⟨hin, hout, hq, hh, hc, ho⟩ := fold g _ rfl
  exact ⟨hin, hout, congrArg (· ++ [_]) hq, hh, hc, ho⟩

namespace Staging.Right

variable {g g' : Staging} {w j : List (Fin 8)}

/-! ## Bytes stored in slots -/

/-- R47, R109, R144: bytes stored in the slots keep the rules. -/
theorem of_bytes (h : g.Right w j) (hs : ∀ i : Fin 8, g.slots[i].sameButBytes g'.slots[i]) (hq : g'.queue = g.queue)
    (hh : g'.held = g.held) (hc : g'.chain = g.chain) : g'.Right w j := by
  have hqd : g'.queued = g.queued := by rw [Staging.queued, hq, Staging.queued]
  refine ⟨fun i => ?_, h.filling.of_subset fun i hi => ?_, hqd ▸ h.queuedNodup, h.writerNodup, h.journalNodup,
    hh ▸ h.heldNodup, hh ▸ h.heldLength, hq ▸ h.sized, hc ▸ h.chainNodup⟩
  · obtain ⟨h1, h2, h3, h4, h5, hcl, h7⟩ := h.placed i
    have hb := hs i
    have ⟨hst, hre, _, _, _, hwa, _⟩ := hb
    refine ⟨?_, ?_, ?_, ?_, ?_, fun hi => hb.cleared (hcl (hst ▸ hi)), ?_⟩
    all_goals simpa only [hst, hre, hwa, hqd, hh, hc]
  · obtain ⟨hst, hre, hho, -⟩ := hs i
    exact ⟨hst ▸ hi, hre, hho⟩

/-! ## A slot taken by a host write -/

/-- R43, R44: an allocation for a record without a FILLING slot keeps the rules. -/
theorem allocate (h : g.Right w j) {i : Fin 8} (r : RecordRef) (hi : g.slots[i].state = .free)
    (hf : g.fillingSlot r.region r.home = none) : (g.allocate i r).Right w j := by
  have hs : (g.allocate i r).slots[i] = _ := Staging.setSlot_same g i _
  have ho : ∀ k, k ≠ i → (g.allocate i r).slots[k] = g.slots[k] := fun k hk => Staging.setSlot_other g _ hk
  have hq : (g.allocate i r).queue = g.queue := rfl
  have hqd : (g.allocate i r).queued = g.queued := rfl
  have hh : (g.allocate i r).held = g.held := rfl
  have hc : (g.allocate i r).chain = g.chain ++ [i] := rfl
  have hff : ∀ k : Fin 8, g.slots[k].state = .filling → g.slots[k].region = .entry r.region →
      g.slots[k].home ≠ some r.home := by
    have := List.find?_eq_none.1 hf
    grind [Slot.ofRecord, Slot.live, mem_indices8]
  have hp := h.placed i
  generalize g.allocate i r = g' at *
  refine ⟨fun k => ?_, ?_, hqd ▸ h.queuedNodup, h.writerNodup, h.journalNodup, hh ▸ h.heldNodup, hh ▸ h.heldLength,
    hq ▸ h.sized, ?_⟩
  · have hk := h.placed k
    by_cases hki : k = i
    · subst hki
      constructor <;> grind [Staging.Placed]
    · have := ho k hki
      constructor <;> grind [Staging.Placed]
  · have := h.filling
    intro a b
    grind [Staging.fillingUnique]
  · have := h.chainNodup
    grind [Staging.Placed]

/-- R69: a FILLING slot that becomes HELD on a list of fewer than three. -/
theorem hold (h : g.Right w j) {i t : Fin 8} (hi : g.slots[i].state = .filling) (hl : g.held[t].length < 3) :
    (g.hold i t).Right w j := by
  have hs : (g.hold i t).slots[i] = _ := Staging.setSlot_same g i _
  have ho : ∀ k, k ≠ i → (g.hold i t).slots[k] = g.slots[k] := fun k hk => Staging.setSlot_other g _ hk
  have hq : (g.hold i t).queue = g.queue := rfl
  have hqd : (g.hold i t).queued = g.queued := rfl
  have hh : (g.hold i t).held[t] = g.held[t] ++ [i] := by simp [Staging.hold]
  have hho : ∀ k : Fin 8, k ≠ t → (g.hold i t).held[k] = g.held[k] := by
    intro k hk
    simp only [Staging.hold, Fin.getElem_fin]
    exact Vector.getElem_set_ne _ _ fun e => hk (Fin.ext e.symm)
  have hc : (g.hold i t).chain = g.chain := rfl
  have hp := h.placed i
  generalize g.hold i t = g' at *
  refine ⟨fun k => ?_, h.filling.of_moved (is := [i]) (fun k hk => by rw [List.mem_singleton.1 hk, hs]; nofun)
    fun k hk => ho k (List.mem_singleton.not.1 hk), hqd ▸ h.queuedNodup, h.writerNodup, h.journalNodup, fun k => ?_,
    fun k => ?_, hq ▸ h.sized, hc ▸ h.chainNodup⟩
  · have hk := h.placed k
    by_cases hki : k = i
    · subst hki
      constructor <;> grind [Staging.Placed]
    · have := ho k hki
      constructor <;> grind [Staging.Placed]
  · have := h.heldNodup k
    grind [Staging.Placed]
  · have := h.heldLength k
    grind

/-! ## Groups -/

/-- R48, R55: a FILLING slot that becomes a group of one. -/
theorem enqueue (h : g.Right w j) {i : Fin 8} (hi : g.slots[i].state = .filling) : (g.enqueue i [i]).Right w j := by
  obtain ⟨hs, ho, hq, hh, hc, -⟩ := g.enqueue_cases i [i]
  have hqd : (g.enqueue i [i]).queued = g.queued ++ [i] := by simp [Staging.queued, hq]
  have hsz : Group.sized { tag := i, slots := [i] } := by simp [Group.sized]
  have hp := h.placed i
  generalize g.enqueue i [i] = g' at *
  refine ⟨fun k => ?_, h.filling.of_moved (fun k hk => by rw [hs k hk]; nofun) ho, ?_, h.writerNodup, h.journalNodup, hh ▸ h.heldNodup,
    hh ▸ h.heldLength, ?_, hc ▸ h.chainNodup⟩
  · have hk := h.placed k
    by_cases hki : k ∈ [i]
    · have := hs k hki
      constructor <;> grind [Staging.Placed]
    · have := ho k hki
      constructor <;> grind [Staging.Placed]
  · have := h.queuedNodup
    grind [Staging.Placed]
  · have := h.sized
    grind

/-- R71, R72: a FILLING slot of a trigger that becomes a group with the slots HELD on the trigger. -/
theorem closeTrigger (h : g.Right w j) {i : Fin 8} (t : Fin 8) (hi : g.slots[i].state = .filling) :
    (g.closeTrigger i t).Right w j := by
  obtain ⟨hs, ho, hq, hh, hc, -⟩ := g.enqueue_cases i (g.held[t] ++ [i])
  have hheld : (g.closeTrigger i t).held[t] = [] := by simp [Staging.closeTrigger]
  have hother : ∀ k : Fin 8, k ≠ t → (g.closeTrigger i t).held[k] = g.held[k] := by
    intro k hk
    simp only [Staging.closeTrigger, Fin.getElem_fin]
    exact Vector.getElem_set_ne _ _ fun e => hk (Fin.ext e.symm)
  have hqd : (g.closeTrigger i t).queued = g.queued ++ (g.held[t] ++ [i]) := by
    rw [Staging.queued, show (g.closeTrigger i t).queue = _ from hq]
    simp only [Staging.queued, List.flatMap_append, List.flatMap_singleton]
  have hsz : Group.sized { tag := i, slots := g.held[t] ++ [i] } := by
    have := h.heldLength t
    simp only [Group.sized, List.length_append, List.length_singleton]
    omega
  have hp := h.placed i
  replace hs : ∀ k ∈ g.held[t] ++ [i], (g.closeTrigger i t).slots[k] = _ := hs
  replace ho : ∀ k, k ∉ g.held[t] ++ [i] → (g.closeTrigger i t).slots[k] = _ := ho
  replace hq : (g.closeTrigger i t).queue = _ := hq
  replace hc : (g.closeTrigger i t).chain = _ := hc
  generalize g.closeTrigger i t = g' at *
  have hstate : ∀ k ∈ g.held[t] ++ [i], g.slots[k].state = .held ∧ g.slots[k].waitsOn = some t ∨ k = i := by
    intro k hk
    have := (h.placed k).held t
    grind
  refine ⟨fun k => ?_, h.filling.of_moved (fun k hk => by rw [hs k hk]; nofun) ho, ?_, h.writerNodup, h.journalNodup, fun k => ?_,
    fun k => ?_, ?_, hc ▸ h.chainNodup⟩
  · have hk := h.placed k
    by_cases hki : k ∈ g.held[t] ++ [i]
    · have := hs k hki
      have := hstate k hki
      constructor <;> grind [Staging.Placed]
    · have := ho k hki
      constructor <;> grind [Staging.Placed]
  · rw [hqd]
    have := h.queuedNodup
    have := h.heldNodup t
    have := fun k => (h.placed k).queued
    have := fun k => (h.placed k).held t
    grind
  · have := h.heldNodup k
    grind
  · have := h.heldLength k
    grind
  · have := h.sized
    grind

/-- R108: the Writer without a group takes the one at the head of the queue. -/
theorem takeGroup (h : g.Right [] j) {x : Group} {rest : List Group} (hq : g.queue = x :: rest) :
    Staging.Right { (g.setStates x.slots .writing) with queue := rest } x.slots j := by
  obtain ⟨hs, ho, -, hh, hc, -⟩ := g.setStates_cases x.slots .writing
  have hqd : g.queued = x.slots ++ rest.flatMap Group.slots := by simp [Staging.queued, hq]
  have hqd' : Staging.queued { (g.setStates x.slots .writing) with queue := rest } = rest.flatMap Group.slots := rfl
  have hqn := hqd ▸ h.queuedNodup
  generalize rest.flatMap Group.slots = q at *
  generalize g.setStates x.slots .writing = g' at *
  refine ⟨fun k => ?_, h.filling.of_moved (fun k hk => by rw [hs k hk]; nofun) ho, hqd' ▸ hqn.of_append_right, hqn.of_append_left, h.journalNodup,
    hh ▸ h.heldNodup, hh ▸ h.heldLength, ?_, hc ▸ h.chainNodup⟩
  · have hk := h.placed k
    by_cases hki : k ∈ x.slots
    · have := hs k hki
      constructor <;> grind [Staging.Placed]
    · have := ho k hki
      constructor <;> grind [Staging.Placed]
  · have := h.sized
    grind

/-- R115: the slots of the Writer's group become those of a live entry. -/
theorem logEntry (h : g.Right w j) : (g.setStates w .logged).Right [] (j ++ w) := by
  obtain ⟨hs, ho, hq, hh, hc, -⟩ := g.setStates_cases w .logged
  have hqd : (g.setStates w .logged).queued = g.queued := by rw [Staging.queued, hq, Staging.queued]
  generalize g.setStates w .logged = g' at *
  refine ⟨fun k => ?_, h.filling.of_moved (fun k hk => by rw [hs k hk]; nofun) ho, hqd ▸ h.queuedNodup, .nil, ?_, hh ▸ h.heldNodup,
    hh ▸ h.heldLength, hq ▸ h.sized, hc ▸ h.chainNodup⟩
  · have hk := h.placed k
    by_cases hki : k ∈ w
    · have := hs k hki
      constructor <;> grind [Staging.Placed]
    · have := ho k hki
      constructor <;> grind [Staging.Placed]
  · have := h.writerNodup
    have := h.journalNodup
    have := fun k => (h.placed k).writing
    have := fun k => (h.placed k).logged
    grind

/-- R118: slots of live entries go to APPLYING. -/
theorem apply (h : g.Right w j) {is : List (Fin 8)} (hi : ∀ i ∈ is, i ∈ j) : (g.setStates is .applying).Right w j := by
  obtain ⟨hs, ho, hq, hh, hc, -⟩ := g.setStates_cases is .applying
  have hqd : (g.setStates is .applying).queued = g.queued := by rw [Staging.queued, hq, Staging.queued]
  generalize g.setStates is .applying = g' at *
  refine ⟨fun k => ?_, h.filling.of_moved (fun k hk => by rw [hs k hk]; nofun) ho, hqd ▸ h.queuedNodup, h.writerNodup, h.journalNodup,
    hh ▸ h.heldNodup, hh ▸ h.heldLength, hq ▸ h.sized, hc ▸ h.chainNodup⟩
  · have hk := h.placed k
    by_cases hki : k ∈ is
    · have := hs k hki
      have := hi k hki
      constructor <;> grind [Staging.Placed]
    · have := ho k hki
      constructor <;> grind [Staging.Placed]

/-! ## Slots freed -/

/-- R45, R122: the slots of the entry at the head of the live-entry list become FREE. -/
theorem freeEntry {is : List (Fin 8)} (h : g.Right w (is ++ j)) : (g.freeSlots is).Right w j := by
  obtain ⟨hs, ho, hq, hh, hc, -⟩ := g.freeSlots_cases is
  have hqd : (g.freeSlots is).queued = g.queued := by rw [Staging.queued, hq, Staging.queued]
  have hjn := h.journalNodup
  generalize g.freeSlots is = g' at *
  refine ⟨fun k => ?_, h.filling.of_moved (fun k hk => by rw [hs k hk]; nofun) ho, hqd ▸ h.queuedNodup, h.writerNodup, hjn.of_append_right,
    hh ▸ h.heldNodup, hh ▸ h.heldLength, hq ▸ h.sized, hc ▸ h.chainNodup.filter _⟩
  · have hk := h.placed k
    by_cases hki : k ∈ is
    · have := hs k hki
      constructor <;> grind [Staging.Placed, Slot.cleared]
    · have := ho k hki
      constructor <;> grind [Staging.Placed]

/-- R45, R61, R77: FILLING slots and whole held lists become FREE and empty. -/
theorem freeOpen (h : g.Right w j) {is : List (Fin 8)} {held : Vector (List (Fin 8)) 8}
    (hi : ∀ i ∈ is, g.slots[i].state = .filling ∨ g.slots[i].state = .held)
    (hl : ∀ t : Fin 8, held[t] = g.held[t] ∧ (∀ i ∈ is, i ∉ g.held[t]) ∨ held[t] = [] ∧ ∀ i ∈ g.held[t], i ∈ is) :
    Staging.Right { (g.freeSlots is) with held := held } w j := by
  obtain ⟨hs, ho, hq, -, hc, -⟩ := g.freeSlots_cases is
  have hqd : Staging.queued { (g.freeSlots is) with held := held } = g.queued := by
    rw [Staging.queued, Staging.queued, ← hq]
  generalize g.freeSlots is = g' at *
  refine ⟨fun k => ?_, h.filling.of_moved (fun k hk => by rw [hs k hk]; nofun) ho, hqd ▸ h.queuedNodup, h.writerNodup, h.journalNodup,
    fun k => ?_, fun k => ?_, hq ▸ h.sized, hc ▸ h.chainNodup.filter _⟩
  · have hk := h.placed k
    by_cases hki : k ∈ is
    · have := hs k hki
      have := hi k hki
      constructor <;> grind [Staging.Placed, Slot.cleared]
    · have := ho k hki
      constructor <;> grind [Staging.Placed]
  · have := h.heldNodup k
    have := hl k
    grind
  · have := h.heldLength k
    have := hl k
    grind

end Staging.Right
end Sys2Proof.Machine
end

section
/-! SUPPORT. How the host port's service, the engines and recovery treat the staging store: each keeps its rules (R42 to R78,
R108 to R122, R144). -/

namespace Sys2Proof.Machine

/-! ## States that hold the same staging store -/

/-- The rules read the store, the Writer, the live entries, and whether the operating state is one without live slots. -/
theorem State.stagingRight.of_eq {s t : State} (h : s.stagingRight) (hs : t.stage = s.stage) (hw : t.writer = s.writer)
    (hj : t.journal.live = s.journal.live) (ho : t.ctrl.opState.unloaded → s.ctrl.opState.unloaded) : t.stagingRight := by
  have hslots : t.journal.slots = s.journal.slots := by rw [Journal.slots, hj, Journal.slots]
  rw [State.stagingRight_iff] at h ⊢
  obtain ⟨hr, he, hg, hp, hf⟩ := h
  exact ⟨by rwa [hs, hw, hslots], by rwa [hj], by rwa [hw], by rwa [hw], fun hu i => by
    rw [State.slot, hs]
    exact hf (ho hu) i⟩

/-- Another store that keeps the rules, in a state in which slots may be live. -/
theorem State.stagingRight.of_stage {s t : State} (h : s.stagingRight) (hs : t.stage.Right s.writer.slots s.journal.slots)
    (hw : t.writer = s.writer) (hj : t.journal.live = s.journal.live) (ho : ¬t.ctrl.opState.unloaded) : t.stagingRight := by
  have hslots : t.journal.slots = s.journal.slots := by rw [Journal.slots, hj, Journal.slots]
  rw [State.stagingRight_iff] at h ⊢
  obtain ⟨-, he, hg, hp, -⟩ := h
  exact ⟨by rwa [hw, hslots], by rwa [hj], by rwa [hw], by rwa [hw], fun hu => absurd hu ho⟩

/-- R62, R129: the staging store with no slot live, nothing in its lists, no live entry and no group of the Writer. -/
structure State.stagingEmpty (s : State) : Prop where
  slots : ∀ i : Fin 8, s.slot i = Slot.cleared (s.slot i).image
  queue : s.stage.queue = []
  held : ∀ t : Fin 8, s.stage.held[t] = []
  chain : s.stage.chain = []
  live : s.journal.live = []
  group : s.writer.group = none
  phase : s.writer.phase = .idle

/-- An empty store keeps the rules. -/
theorem State.stagingEmpty.right {s : State} (h : s.stagingEmpty) : s.stagingRight := by
  have hfree : ∀ i : Fin 8, s.stage.slots[i].state = .free := fun i => congrArg Slot.state (h.slots i)
  have hq : s.stage.queued = [] := by rw [Staging.queued, h.queue]; rfl
  have hw : s.writer.slots = [] := by rw [Writer.slots, h.group]; rfl
  have hj : s.journal.slots = [] := by rw [Journal.slots, h.live]; rfl
  rw [State.stagingRight_iff, hw, hj]
  refine ⟨⟨fun i => ?_, fun i k hi => ?_, by simp [hq], .nil, .nil, fun t => by simp [h.held t],
    fun t => by simp [h.held t], by simp [h.queue], by simp [h.chain]⟩, by simp [h.live], by simp [h.group],
    by simp [h.group, h.phase], fun _ => hfree⟩
  · constructor
    case cleared => exact fun _ => h.slots i
    all_goals simp only [hfree i, hq, h.chain, h.held]
    all_goals simp
  · rw [hfree i] at hi
    cases hi

/-- R62, R129: with the rules kept the store is empty where no slot may be live. -/
theorem State.stagingRight.empty {s : State} (h : s.stagingRight) (ho : s.ctrl.opState.unloaded) : s.stagingEmpty := by
  obtain ⟨hr, he, hg, hp, hf⟩ := State.stagingRight_iff.1 h
  replace hf := hf ho
  have no_slots : ∀ {is : List (Fin 8)}, (∀ i ∈ is, (s.slot i).state ≠ .free) → is = [] := fun {is} h =>
    List.eq_nil_iff_forall_not_mem.2 fun i hi => h i hi (hf i)
  have hstate : ∀ i : Fin 8, s.stage.slots[i].state = .free := hf
  have hq : ∀ x ∈ s.stage.queue, x.slots = [] := fun x hx => no_slots fun i hi he => by
    have := (hr.placed i).queued.2 (List.mem_flatMap.2 ⟨x, hx, hi⟩)
    rw [hstate i] at this
    cases this
  have hl : ∀ e ∈ s.journal.live, e.group.slots = [] := fun e he => no_slots fun i hi _ => by
    have := (hr.placed i).logged.2 (List.mem_flatMap.2 ⟨e, he, hi⟩)
    rw [hstate i] at this
    exact this.elim nofun nofun
  have hw : s.writer.slots = [] := no_slots fun i hi _ => by
    have := (hr.placed i).writing.2 hi
    rw [hstate i] at this
    cases this
  have hgroup : s.writer.group = none := by
    cases hgr : s.writer.group with
    | none => rfl
    | some x =>
      have hx : x.slots = [] := by simpa [Writer.slots, hgr] using hw
      have := (hg x hgr).1
      simp [hx] at this
  refine ⟨fun i => (hr.placed i).cleared (hf i), List.eq_nil_iff_forall_not_mem.2 fun x hx => ?_, fun t => ?_, ?_,
    List.eq_nil_iff_forall_not_mem.2 fun e hx => ?_, hgroup, hp.2 hgroup⟩
  · have := (hr.sized x hx).1
    simp [hq x hx] at this
  · exact no_slots fun i hi _ => by
      have := (((hr.placed i).held t).2 hi).1
      rw [hstate i] at this
      cases this
  · exact no_slots fun i hi => ((hr.placed i).chain.1 hi).1
  · have := (he e hx).1
    simp [hl e hx] at this

/-- An empty store stays so where the Writer, the lists and the slots' states stay and no entry becomes live. -/
theorem State.stagingEmpty.of_eq {s t : State} (h : s.stagingEmpty) (hs : t.stage = s.stage) (hw : t.writer = s.writer)
    (hj : t.journal.live = s.journal.live ∨ t.journal.live = []) : t.stagingEmpty := by
  have hlive : t.journal.live = [] := by
    rcases hj with hj | hj
    · rw [hj, h.live]
    · exact hj
  have hslot : ∀ i, t.slot i = s.slot i := fun i => by rw [State.slot, hs, State.slot]
  exact ⟨fun i => by rw [hslot i]; exact h.slots i, hs ▸ h.queue, hs ▸ h.held, hs ▸ h.chain, hlive, hw ▸ h.group,
    hw ▸ h.phase⟩

/-! ## Host cycles (R46 to R51, R69 to R71) -/

/-- R47: storing a byte changes the bytes of a live slot alone. -/
theorem Staging.setSlot_store_sameButBytes {g : Staging} {i : Fin 8} (h : g.slots[i].state ≠ .free) (o : Nat) (b : Byte)
    (k : Fin 8) : g.slots[k].sameButBytes (g.setSlot i (g.slots[i].store o b)).slots[k] := by
  by_cases hk : k = i
  · subst hk
    rw [Staging.setSlot_same]
    exact ⟨rfl, rfl, rfl, rfl, rfl, rfl, rfl, fun hf => absurd hf h⟩
  · rw [g.setSlot_other _ hk]
    exact ⟨rfl, rfl, rfl, rfl, rfl, rfl, rfl, fun _ => rfl⟩

theorem Staging.Right.store {g : Staging} {w j : List (Fin 8)} (h : g.Right w j) {i : Fin 8}
    (hi : g.slots[i].state ≠ .free) (o : Nat) (b : Byte) : (g.setSlot i (g.slots[i].store o b)).Right w j :=
  h.of_bytes (Staging.setSlot_store_sameButBytes hi o b) rfl rfl rfl

section
variable {s : State} {w j : List (Fin 8)}

theorem State.closeSlot_right (h : s.stage.Right w j) {i : Fin 8} (r : RecordRef)
    (hi : s.stage.slots[i].state = .filling) : (s.closeSlot i r).stage.Right w j := by
  unfold State.closeSlot
  split
  · split
    · exact h.hold hi ‹_›
    · simpa using h
  · split
    · exact h.closeTrigger r.region hi
    · exact h.enqueue hi

theorem State.storeInto_right (h : s.stage.Right w j) {i : Fin 8} (r : RecordRef)
    (hi : s.stage.slots[i].state = .filling) : (s.storeInto i r).stage.Right w j := by
  have hstored := h.store (i := i) (by rw [hi]; nofun) r.offset s.host.data
  have hfilling : (s.stage.setSlot i (s.stage.slots[i].store r.offset s.host.data)).slots[i].state = .filling := by
    rw [Staging.setSlot_same]
    exact hi
  unfold State.storeInto
  dsimp only
  split
  · rw [(State.answerWrite_frame _).2.2.2.2.2.1]
    exact State.closeSlot_right (s := s.setStage _) hstored r hfilling
  · exact hstored

/-- R46: the FILLING slot that a search finds is FILLING. -/
theorem Staging.fillingSlot_state {g : Staging} {region : Fin 8} {home : Addr} {i : Fin 8}
    (h : g.fillingSlot region home = some i) : g.slots[i].state = .filling := by
  have := List.find?_some h
  simp only [Bool.and_eq_true, beq_iff_eq] at this
  exact this.1

/-- R43: the lowest FREE slot is FREE. -/
theorem Staging.lowestFree_state {g : Staging} {i : Fin 8} (h : g.lowestFree = some i) : g.slots[i].state = .free := by
  simpa using List.find?_some h

theorem State.stageWrite_right (h : s.stage.Right w j) (r : RecordRef) : (s.stageWrite r).stage.Right w j := by
  unfold State.stageWrite
  split
  · exact State.storeInto_right h r (Staging.fillingSlot_state ‹_›)
  · split
    · rename_i hfill _ i hfree
      refine State.storeInto_right (s := s.setStage _) (h.allocate r (Staging.lowestFree_state hfree) hfill) r ?_
      exact congrArg Slot.state (Staging.setSlot_same _ _ _)
    · split
      · simpa using h
      · simpa using h

/-- R26 to R28: only a RECORD write taken in RUNNING changes the staging store. -/
theorem State.serveRunning_stage (s : State) (k : Lookup) :
    (s.serveRunning k).stage = s.stage
      ∨ ∃ r, k.cls = .record ∧ s.host.kind = .write ∧ (s.serveRunning k).stage = (s.stageWrite r).stage := by
  unfold State.serveRunning
  split
  · simp
  · split <;> simp
  · simp
  · simp
  · rename_i hcls
    split
    · simp
    · exact .inr ⟨_, hcls, ‹_›, rfl⟩
    · simp

/-- R29, R30: outside RUNNING a served cycle leaves the staging store. -/
theorem State.serve_stage (ho : s.ctrl.opState ≠ .running) : s.serve.stage = s.stage := by
  unfold State.serve
  dsimp only
  split
  iterate 4 simp
  · contradiction
  · unfold State.serveFaulted
    split
    · simp
    · rename_i hne
      rcases State.serveRunning_stage (s.setHost _) _ with h | ⟨r, hcls, hk, -⟩
      · exact h
      · exact absurd hk (hne hcls)
  · split
    · simp
    · unfold State.serveLocked
      split
      · simp
      · rename_i hk
        rcases State.serveRunning_stage (s.setHost _) _ with h | ⟨r, -, hw, -⟩
        · exact h
        · rw [hw] at hk
          cases hk
  · rfl

theorem State.serve_stagingRight (h : s.stagingRight) : s.serve.stagingRight := by
  by_cases ho : s.ctrl.opState = .running
  · refine h.of_stage ?_ (by simp) (by simp) (by simp [ho, OpState.unloaded])
    have hr := (State.stagingRight_iff.1 h).1
    have he : s.serve = (s.setHost { s.host with found := some (s.lookup s.host.addr.toNat) }).serveRunning
        (s.lookup s.host.addr.toNat) := by
      simp only [State.serve, ho]
    rw [he]
    rcases State.serveRunning_stage (s.setHost { s.host with found := some (s.lookup s.host.addr.toNat) })
      (s.lookup s.host.addr.toNat) with e | ⟨r, -, -, e⟩
    · rw [e]
      exact hr
    · rw [e]
      exact State.stageWrite_right (by exact hr) r
  · exact h.of_eq (State.serve_stage ho) (by simp) (by simp) (by simp)

theorem State.redecodeHeld_stagingRight (h : s.stagingRight) : s.redecodeHeld.stagingRight := by
  unfold State.redecodeHeld
  split
  · exact State.serve_stagingRight h
  · exact h

theorem State.endStateHold_stagingRight (h : s.stagingRight) : s.endStateHold.stagingRight := by
  unfold State.endStateHold
  split
  iterate 4 exact State.serve_stagingRight h
  exact h

theorem State.endSlotHold_stagingRight (h : s.stagingRight) : s.endSlotHold.stagingRight := by
  unfold State.endSlotHold
  split
  · exact State.redecodeHeld_stagingRight h
  · exact h

theorem State.grant_stagingRight (h : s.stagingRight) : s.grant.stagingRight :=
  h.of_eq (by simp) (by simp) (by simp) (by simp)

theorem State.grantBy_stagingRight (h : s.stagingRight) (o : Order) : (s.grantBy o).stagingRight :=
  h.of_eq (by simp) (by simp) (by simp) (by simp)

theorem State.chooseThenHeld_stagingRight (h : s.stagingRight) : s.chooseThenHeld.stagingRight := by
  unfold State.chooseThenHeld
  dsimp only
  refine State.grant_stagingRight ?_
  split
  · exact State.grant_stagingRight h
  · exact State.endSlotHold_stagingRight (State.grant_stagingRight h)

theorem State.afterAccess_stagingRight (h : s.stagingRight) (o : Order) : (s.afterAccess o).stagingRight := by
  unfold State.afterAccess
  split
  · exact State.grantBy_stagingRight (State.endSlotHold_stagingRight h) _
  · exact State.grantBy_stagingRight (State.endSlotHold_stagingRight h) _
  · exact State.chooseThenHeld_stagingRight h
  · split
    · exact h
    · exact State.chooseThenHeld_stagingRight h

end

end Sys2Proof.Machine
end

section
/-! SUPPORT. The engines and recovery keep the rules of the staging store (R108 to R122, R139 to R149). -/

namespace Sys2Proof.Machine

/-! ## The merge (R109) -/

/-- R109: every offset that the merge visits belongs to a slot of the group and lies below its LENGTH. -/
theorem Staging.mem_mergeOrder {g : Staging} {is : List (Fin 8)} {x : Fin 8 × Nat} :
    x ∈ g.mergeOrder is ↔ x.1 ∈ is ∧ x.2 < g.slots[x.1].length := by
  obtain ⟨i, k⟩ := x
  simp only [Staging.mergeOrder, List.mem_flatMap, List.mem_map, List.mem_range, Prod.mk.injEq]
  constructor
  · rintro ⟨a, ha, b, hb, rfl, rfl⟩
    exact ⟨ha, hb⟩
  · rintro ⟨hi, hk⟩
    exact ⟨i, hi, k, hk, rfl, rfl⟩

/-- R109: the offset that the merge needs belongs to a slot of the group, lies below its LENGTH, and has no byte. -/
theorem Staging.mergeNeed_some {g : Staging} {is : List (Fin 8)} {i : Fin 8} {k : Nat} (h : g.mergeNeed is = some (i, k)) :
    i ∈ is ∧ k < g.slots[i].length ∧ g.slots[i].written.getLsbD k = false := by
  have hm := Staging.mem_mergeOrder.1 (List.mem_of_find?_eq_some h)
  have hp := List.find?_some h
  exact ⟨hm.1, hm.2, by simpa using hp⟩

/-- R41: two slots that differ from a third in bytes alone differ from each other in bytes alone. -/
theorem Slot.sameButBytes.trans {x y z : Slot} (h : x.sameButBytes y) (h' : y.sameButBytes z) : x.sameButBytes z := by
  obtain ⟨a1, a2, a3, a4, a5, a6, a7, a8⟩ := h
  obtain ⟨b1, b2, b3, b4, b5, b6, b7, b8⟩ := h'
  exact ⟨b1.trans a1, b2.trans a2, b3.trans a3, b4.trans a4, b5.trans a5, b6.trans a6, b7.trans a7,
    fun hf => (b8 (a1.trans hf)).trans (a8 hf)⟩

theorem Slot.sameButBytes_refl (x : Slot) : x.sameButBytes x :=
  ⟨rfl, rfl, rfl, rfl, rfl, rfl, rfl, fun _ => rfl⟩

/-- R109: the merge passes over an offset with a byte. -/
theorem Staging.mergeThrough_held {g : Staging} {i : Fin 8} {k : Nat} (l : List (Fin 8 × Nat))
    (h : g.slots[i].written.getLsbD k = true) : Staging.mergeThrough ((i, k) :: l) g = Staging.mergeThrough l g :=
  if_pos h

/-- R109: it stores the byte of an older version. -/
theorem Staging.mergeThrough_found {g : Staging} {i : Fin 8} {k : Nat} {b : Byte} (l : List (Fin 8 × Nat))
    (h : g.slots[i].written.getLsbD k = false) (hb : g.olderByte i k = some b) :
    Staging.mergeThrough ((i, k) :: l) g = Staging.mergeThrough l (g.setSlot i (g.slots[i].store k b)) := by
  rw [Staging.mergeThrough, if_neg (by simp only [h]; nofun), hb]

/-- R109: it stops at an offset that needs the home byte. -/
theorem Staging.mergeThrough_stops {g : Staging} {i : Fin 8} {k : Nat} (l : List (Fin 8 × Nat))
    (h : g.slots[i].written.getLsbD k = false) (hb : g.olderByte i k = none) :
    Staging.mergeThrough ((i, k) :: l) g = g := by
  rw [Staging.mergeThrough, if_neg (by simp only [h]; nofun), hb]

/-- R109: the merge changes bytes of live slots alone, and no list. -/
theorem Staging.mergeThrough_sameButBytes (l : List (Fin 8 × Nat)) (g : Staging)
    (hl : ∀ x ∈ l, g.slots[x.1].state ≠ .free) :
    (∀ i : Fin 8, g.slots[i].sameButBytes (Staging.mergeThrough l g).slots[i])
      ∧ (Staging.mergeThrough l g).queue = g.queue ∧ (Staging.mergeThrough l g).held = g.held
      ∧ (Staging.mergeThrough l g).chain = g.chain ∧ (Staging.mergeThrough l g).openCounter = g.openCounter := by
  induction l generalizing g with
  | nil => exact ⟨fun i => Slot.sameButBytes_refl _, rfl, rfl, rfl, rfl⟩
  | cons x l ih =>
    obtain ⟨i, k⟩ := x
    have hrest : ∀ x ∈ l, g.slots[x.1].state ≠ .free := fun x hx => hl x (List.mem_cons_of_mem _ hx)
    cases hw : g.slots[i].written.getLsbD k with
    | true =>
      rw [Staging.mergeThrough_held l hw]
      exact ih g hrest
    | false =>
      cases hb : g.olderByte i k with
      | none =>
        rw [Staging.mergeThrough_stops l hw hb]
        exact ⟨fun i => Slot.sameButBytes_refl _, rfl, rfl, rfl, rfl⟩
      | some b =>
        rw [Staging.mergeThrough_found l hw hb]
        have hstore := Staging.setSlot_store_sameButBytes (hl (i, k) List.mem_cons_self) k b
        obtain ⟨hs, hq, hh, hc, ho⟩ := ih (g.setSlot i (g.slots[i].store k b)) fun x hx => by
          rw [(hstore x.1).1]
          exact hrest x hx
        exact ⟨fun n => (hstore n).trans (hs n), hq, hh, hc, ho⟩

section
variable {s : State}

/-! ## The Writer -/

/-- R107: the Writer's slots are WRITING. -/
theorem State.stagingRight.writer_state (h : s.stagingRight) {i : Fin 8} (hi : i ∈ s.writer.slots) :
    s.stage.slots[i].state = .writing :=
  ((State.stagingRight_iff.1 h).1.placed i).writing.2 hi

/-- R107: another working state of the Writer with the same group, IDLE where it was IDLE. -/
theorem State.setWriter_stagingRight (h : s.stagingRight) {w : Writer} (hg : w.group = s.writer.group)
    (hp : w.phase = .idle ↔ s.writer.phase = .idle) : (s.setWriter w).stagingRight := by
  have hslots : w.slots = s.writer.slots := by rw [Writer.slots, hg, Writer.slots]
  rw [State.stagingRight_iff] at h ⊢
  obtain ⟨hr, he, hgr, hph, hf⟩ := h
  refine ⟨?_, he, ?_, ?_, hf⟩
  · rwa [State.setWriter_writer, hslots]
  · rwa [State.setWriter_writer, hg]
  · rw [State.setWriter_writer, hg, hp]
    exact hph

/-- R144, R109: bytes stored in the slots of a state keep the rules. -/
theorem State.stagingRight.setStage_bytes (h : s.stagingRight) {g : Staging}
    (hs : ∀ i : Fin 8, s.stage.slots[i].sameButBytes g.slots[i]) (hq : g.queue = s.stage.queue)
    (hh : g.held = s.stage.held) (hc : g.chain = s.stage.chain) : (s.setStage g).stagingRight := by
  rw [State.stagingRight_iff] at h ⊢
  obtain ⟨hr, he, hg, hp, hf⟩ := h
  exact ⟨hr.of_bytes hs hq hh hc, he, hg, hp, fun ho i => (hs i).1.trans (hf ho i)⟩

theorem State.mergeOn_stagingRight (h : s.stagingRight) (hp : s.writer.phase ≠ .idle) : s.mergeOn.stagingRight := by
  obtain ⟨hs, hq, hh, hc, -⟩ := Staging.mergeThrough_sameButBytes (s.stage.mergeOrder s.writer.slots) s.stage
    fun x hx => by
      rw [h.writer_state (Staging.mem_mergeOrder.1 hx).1]
      nofun
  have hstage := h.setStage_bytes hs hq hh hc
  unfold State.mergeOn
  dsimp only
  split
  · exact State.setWriter_stagingRight hstage rfl (iff_of_false nofun hp)
  · exact hstage

theorem State.mergeTake_stagingRight (h : s.stagingRight) (hp : s.writer.phase ≠ .idle) (b : Byte) :
    (s.mergeTake b).stagingRight := by
  unfold State.mergeTake
  split
  · rename_i i k hn
    have hi := h.writer_state (Staging.mergeNeed_some hn).1
    refine State.mergeOn_stagingRight ?_ hp
    exact h.setStage_bytes (Staging.setSlot_store_sameButBytes (by rw [hi]; nofun) k b) rfl rfl rfl
  · exact h

/-- R115: the entry joins the live-entry list, and the Writer is IDLE without a group. -/
theorem State.entryLogged_stagingRight (h : s.stagingRight) : s.entryLogged.stagingRight := by
  unfold State.entryLogged
  split
  · rename_i grp hgrp
    have hslots : s.writer.slots = grp.slots := by simp [Writer.slots, hgrp]
    rw [State.stagingRight_iff] at h ⊢
    obtain ⟨hr, he, hg, hp, hf⟩ := h
    refine ⟨?_, ?_, nofun, by simp [Writer.idle], fun ho i => ?_⟩
    · have hlog := hr.logEntry
      rw [hslots] at hlog
      simpa [Journal.slots, Writer.slots, Writer.idle] using hlog
    · simpa [or_imp, forall_and] using ⟨he, hg grp hgrp⟩
    · have hnone : i ∉ grp.slots := fun hi => by
        have := (hr.placed i).writing.2 (hslots ▸ hi)
        rw [show s.stage.slots[i].state = .free from hf ho i] at this
        cases this
      exact (congrArg Slot.state ((s.stage.setStates_cases grp.slots .logged).2.1 i hnone)).trans (hf ho i)
  · exact h

/-- R124: where the operating state is RUNNING or becomes FAULTED, slots may be live. -/
theorem OpState.not_unloaded_faulted : ¬OpState.faulted.unloaded := by
  simp [OpState.unloaded]

theorem OpState.not_unloaded_running : ¬OpState.running.unloaded := by
  simp [OpState.unloaded]

theorem State.enterFaulted_stagingRight (h : s.stagingRight) (c : FaultCause) (e : Requester) (o : Order) :
    (s.enterFaulted c e o).stagingRight :=
  h.of_eq (by simp) (by simp) (by simp) (by simp [OpState.not_unloaded_faulted])

theorem State.logEvent_stagingRight (h : s.stagingRight) (r : EventReport) : (s.logEvent r).stagingRight :=
  h.of_eq rfl rfl rfl id

theorem State.journalFault_stagingRight (h : s.stagingRight) (hp : s.writer.phase ≠ .idle) (a : Nat) (o : Order) :
    (s.journalFault a o).stagingRight := by
  unfold State.journalFault
  split
  · split
    · exact State.setWriter_stagingRight (State.logEvent_stagingRight h _) rfl (iff_of_false nofun hp)
    · exact State.enterFaulted_stagingRight (State.logEvent_stagingRight h _) _ _ _
  · exact h

theorem State.writerAdvance_stagingRight (h : s.stagingRight) (hp : s.writer.phase ≠ .idle) (r : StepResult) (o : Order) :
    (s.writerAdvance r o).stagingRight := by
  unfold State.writerAdvance
  split
  · exact State.journalFault_stagingRight h hp _ _
  · exact State.setWriter_stagingRight h rfl Iff.rfl
  · exact State.setWriter_stagingRight h rfl (iff_of_false nofun hp)
  · exact State.setWriter_stagingRight h rfl (iff_of_false nofun hp)
  · exact State.entryLogged_stagingRight h
  · exact h

/-- R127: going on keeps the group, and IDLE. -/
theorem Writer.resumed_group (w : Writer) : w.resumed.group = w.group ∧ (w.resumed.phase = .idle ↔ w.phase = .idle) := by
  unfold Writer.resumed
  split <;> simp_all

theorem Writer.resumedLater_group (w : Writer) : w.resumedLater.group = w.group ∧ w.resumedLater.phase = w.phase := by
  unfold Writer.resumedLater
  split <;> simp

theorem State.writerResume_stagingRight (h : s.stagingRight) (hp : s.writer.phase ≠ .idle) (r : StepResult) (o : Order) :
    (s.writerResume r o).stagingRight := by
  have resumed : ∀ {t : State}, t.stagingRight → (t.setWriter t.writer.resumed).stagingRight := fun {t} ht =>
    State.setWriter_stagingRight ht t.writer.resumed_group.1 t.writer.resumed_group.2
  unfold State.writerResume
  cases r with
  | done => exact resumed (State.writerAdvance_stagingRight h hp _ _)
  | more | unequal a => exact resumed h

theorem State.writerTake_stagingRight (h : s.stagingRight) (b : Byte) (o : Order) : (s.writerTake b o).stagingRight := by
  have step : s.writer.phase ≠ .idle → ∀ r, (if s.writer.resuming then s.writerResume r o
      else s.writerAdvance r o).stagingRight := by
    intro hp r
    split
    · exact State.writerResume_stagingRight h hp r o
    · exact State.writerAdvance_stagingRight h hp r o
  unfold State.writerTake
  split
  · split
    · exact State.setWriter_stagingRight h rfl Iff.rfl
    · exact h
  · rename_i hp
    exact State.mergeTake_stagingRight h (by rw [hp]; nofun) b
  · exact h
  all_goals
    rename_i hp
    exact step (by rw [hp]; nofun) _

theorem State.placeEntry_stagingRight (h : s.stagingRight) (hp : s.writer.phase ≠ .idle) :
    s.placeEntry.stagingRight := by
  unfold State.placeEntry
  split
  · exact State.setWriter_stagingRight (s := s.setJournal _) (h.of_eq rfl rfl rfl id) rfl (iff_of_false nofun hp)
  · exact h

/-! ## The Applier -/

/-- R122: the head entry leaves the list and its slots become FREE. -/
theorem State.anchorDone_stagingRight (h : s.stagingRight) : s.anchorDone.stagingRight := by
  unfold State.anchorDone
  split
  · rename_i e hlive
    obtain ⟨rest, hl⟩ : ∃ rest, s.journal.live = e :: rest := List.head?_eq_some_iff.1 hlive
    rw [State.stagingRight_iff] at h ⊢
    obtain ⟨hr, he, hg, hp, hf⟩ := h
    have hjs : s.journal.slots = e.group.slots ++ rest.flatMap fun e => e.group.slots := by
      simp [Journal.slots, hl]
    rw [hjs] at hr
    refine ⟨?_, ?_, ?_, ?_, fun ho i => ?_⟩
    · simpa [Journal.slots, Journal.anchored, hl] using hr.freeEntry
    · simpa [Journal.anchored, hl] using fun x hx => he x (hl ▸ List.mem_cons_of_mem _ hx)
    · simpa using hg
    · simpa using hp
    · have hfree := hf (by simpa using ho) i
      obtain ⟨hin, hout, -⟩ := s.stage.freeSlots_cases e.group.slots
      by_cases hi : i ∈ e.group.slots
      · simpa [State.slot, Slot.cleared] using congrArg Slot.state (hin i hi)
      · simpa [State.slot] using (congrArg Slot.state (hout i hi)).trans hfree
  · exact h

theorem State.applyFault_stagingRight (h : s.stagingRight) (a : Nat) (o : Order) : (s.applyFault a o).stagingRight := by
  unfold State.applyFault
  split
  · split
    · exact h.of_eq rfl rfl rfl id
    · exact State.enterFaulted_stagingRight (State.logEvent_stagingRight h _) _ _ _
  · exact h

theorem State.applierAdvance_stagingRight (h : s.stagingRight) (r : StepResult) (o : Order) :
    (s.applierAdvance r o).stagingRight := by
  have setApplier : ∀ a, (s.setApplier a).stagingRight := fun a => h.of_eq rfl rfl rfl id
  unfold State.applierAdvance
  split
  · exact State.applyFault_stagingRight h _ _
  · exact setApplier _
  · split
    · exact setApplier _
    · exact setApplier _
  · exact setApplier _
  · exact State.anchorDone_stagingRight h
  · exact h

theorem State.applierTake_stagingRight (h : s.stagingRight) (b : Byte) (o : Order) : (s.applierTake b o).stagingRight := by
  unfold State.applierTake
  dsimp only
  split
  · have setApplier : ∀ {t : State}, t.stagingRight → (t.setApplier t.applier.resumed).stagingRight :=
      fun ht => ht.of_eq rfl rfl rfl id
    unfold State.applierResume
    cases stepResult s.applierProgram s.applier.idx b with
    | done => exact setApplier (State.applierAdvance_stagingRight h _ _)
    | more | unequal a => exact setApplier h
  · exact State.applierAdvance_stagingRight h _ _

/-! ## Recovery, the format and the loader, where no slot is live -/

/-- R144: the buffer of a replay changes IMAGE of FREE slots alone. -/
theorem Staging.buffer_cases (is : List (Fin 8)) (xs : List Segment) (g : Staging) :
    (∀ i : Fin 8, ∃ image, (g.buffer is xs).slots[i] = { g.slots[i] with image := image })
      ∧ (g.buffer is xs).queue = g.queue ∧ (g.buffer is xs).held = g.held ∧ (g.buffer is xs).chain = g.chain := by
  induction is generalizing g xs with
  | nil => cases xs <;> exact ⟨fun i => ⟨_, rfl⟩, rfl, rfl, rfl⟩
  | cons n is ih =>
    cases xs with
    | nil => exact ⟨fun i => ⟨_, rfl⟩, rfl, rfl, rfl⟩
    | cons x xs =>
      unfold Staging.buffer
      obtain ⟨hs, hq, hh, hc⟩ := ih xs (g.setSlot n _)
      refine ⟨fun i => ?_, hq, hh, hc⟩
      obtain ⟨image, hi⟩ := hs i
      by_cases hn : i = n
      · subst hn
        rw [Staging.setSlot_same] at hi
        exact ⟨image, hi⟩
      · rw [g.setSlot_other _ hn] at hi
        exact ⟨image, hi⟩

theorem State.beginReplay_empty (h : s.stagingEmpty) (xs : List Segment) (l : Nat) :
    (s.beginReplay xs l).stagingEmpty := by
  obtain ⟨hs, hq, hh, hc⟩ := Staging.buffer_cases indices8 xs s.stage
  refine ⟨fun i => ?_, hq.trans h.queue, fun t => ?_, hc.trans h.chain, h.live, h.group, h.phase⟩
  · obtain ⟨image, hi⟩ := hs i
    change (s.stage.buffer indices8 xs).slots[i] = Slot.cleared (s.stage.buffer indices8 xs).slots[i].image
    rw [hi, show s.stage.slots[i] = _ from h.slots i]
    rfl
  · change (s.stage.buffer indices8 xs).held[t] = []
    rw [hh]
    exact h.held t

theorem State.serve_empty (h : s.stagingEmpty) (ho : s.ctrl.opState ≠ .running) : s.serve.stagingEmpty :=
  h.of_eq (State.serve_stage ho) (by simp) (.inl (by simp))

/-- R23: a start-up hold that ends outside RUNNING leaves an empty store empty. -/
theorem State.endStateHold_empty (h : s.stagingEmpty) (ho : s.ctrl.opState ≠ .running) : s.endStateHold.stagingEmpty := by
  unfold State.endStateHold
  split
  iterate 4 exact State.serve_empty h ho
  exact h

theorem State.scanEnd_empty (h : s.stagingEmpty) : s.scanEnd.stagingEmpty :=
  h.of_eq (by simp) (by simp) (.inr (by simp [State.scanEnd, State.describeJournal]))

theorem State.recoveryFault_empty (h : s.stagingEmpty) : s.recoveryFault.stagingEmpty := by
  unfold State.recoveryFault
  refine State.endStateHold_empty ?_ (by simp)
  exact h.of_eq (by simp) (by simp) (.inr (by simp [State.describeJournal]))

theorem State.setRecovery_empty (h : s.stagingEmpty) (r : Recovery) : (s.setRecovery r).stagingEmpty :=
  h.of_eq rfl rfl (.inl rfl)

theorem State.examine_empty (h : s.stagingEmpty) : s.examine.stagingEmpty := by
  unfold State.examine
  dsimp only
  split
  · exact State.scanEnd_empty h
  · exact State.setRecovery_empty h _

theorem State.scanUnfit_empty (h : s.stagingEmpty) (bs : List Byte) : (s.scanUnfit bs).stagingEmpty := by
  unfold State.scanUnfit
  dsimp only
  split
  · exact State.scanEnd_empty (State.setRecovery_empty h _)
  · exact State.scanEnd_empty h

theorem State.scanMark_empty (h : s.stagingEmpty) (b : Byte) : (s.scanMark b).stagingEmpty := by
  unfold State.scanMark
  dsimp only
  split
  · split
    · exact State.examine_empty (State.setRecovery_empty h _)
    · exact State.scanEnd_empty h
  · split
    · split
      · exact State.setRecovery_empty h _
      · exact State.scanEnd_empty h
    · exact State.scanEnd_empty h

theorem State.scanHeader_empty (h : s.stagingEmpty) (bs : List Byte) : (s.scanHeader bs).stagingEmpty := by
  unfold State.scanHeader
  dsimp only
  split
  · exact State.setRecovery_empty h _
  · exact State.scanUnfit_empty h _

theorem State.scanEntry_empty (h : s.stagingEmpty) (bs : List Byte) : (s.scanEntry bs).stagingEmpty := by
  unfold State.scanEntry
  dsimp only
  split
  · split
    · exact State.beginReplay_empty h _ _
    · split
      · exact State.examine_empty (State.setRecovery_empty h _)
      · exact State.scanEnd_empty h
  · exact State.scanUnfit_empty h _

theorem State.scanTake_empty (h : s.stagingEmpty) (b : Byte) : (s.scanTake b).stagingEmpty := by
  unfold State.scanTake
  dsimp only
  split
  · exact State.scanMark_empty h _
  · split
    · exact State.setRecovery_empty h _
    · split
      · exact State.scanHeader_empty h _
      · split
        · exact State.setRecovery_empty h _
        · exact State.scanEntry_empty h _

theorem State.enterLocked_empty (h : s.stagingEmpty) : s.enterLocked.stagingEmpty := by
  unfold State.enterLocked
  refine State.endStateHold_empty ?_ (by simp)
  exact h.of_eq (by simp) (by simp) (.inr (by simp [Journal.cleared]))

theorem State.anchorsTake_empty (h : s.stagingEmpty) (b : Byte) : (s.anchorsTake b).stagingEmpty := by
  unfold State.anchorsTake
  dsimp only
  split
  · exact State.setRecovery_empty h _
  · unfold State.anchorsRead
    dsimp only
    split
    · exact State.examine_empty (h.of_eq rfl rfl (.inl rfl))
    · split
      · exact h.of_eq rfl rfl (.inl rfl)
      · exact State.enterLocked_empty h

theorem State.replayAdvance_empty (h : s.stagingEmpty) (x : StepResult) : (s.replayAdvance x).stagingEmpty := by
  unfold State.replayAdvance
  dsimp only
  split
  · unfold State.replayFault
    dsimp only
    split
    · exact h.of_eq rfl rfl (.inl rfl)
    · exact State.recoveryFault_empty (h.of_eq rfl rfl (.inl rfl))
  · exact State.setRecovery_empty h _
  · split <;> exact State.setRecovery_empty h _
  · exact State.setRecovery_empty h _
  · exact State.examine_empty (h.of_eq rfl rfl (.inl rfl))
  · exact h

theorem State.formatTake_empty (h : s.stagingEmpty) : s.formatTake.stagingEmpty := by
  unfold State.formatTake
  split
  · split
    · exact h.of_eq rfl rfl (.inl rfl)
    · split
      · exact h.of_eq (by simp) (by simp)
          (.inr (by simp [State.commandedFormatDone, Journal.formatted, Journal.cleared]))
      · exact h.of_eq (by simp) (by simp)
          (.inr (by simp [State.autoFormatDone, Journal.formatted, Journal.cleared]))
  · exact h

theorem State.recoveryTake_empty (h : s.stagingEmpty) (b : Byte) : (s.recoveryTake b).stagingEmpty := by
  unfold State.recoveryTake
  split
  · exact h
  · exact State.anchorsTake_empty h b
  · exact State.scanTake_empty h b
  iterate 3 exact State.replayAdvance_empty h _
  exact State.formatTake_empty h

/-- R164: the load ends in RUNNING, where the cycle that was held may take a slot. -/
theorem State.loaderTake_stagingRight (h : s.stagingEmpty) (b : Byte) : (s.loaderTake b).stagingRight := by
  unfold State.loaderTake
  split
  · exact (h.of_eq (t := s.setCtrl _) rfl rfl (.inl rfl)).right
  · unfold State.loadDone
    dsimp only
    refine State.endStateHold_stagingRight (State.stagingEmpty.right ?_)
    split
    · exact h.of_eq (by simp) (by simp) (.inl (by simp))
    · exact h.of_eq (by simp) (by simp) (.inl (by simp))

theorem State.systemTake_stagingRight (h : s.stagingRight) (b : Byte) : (s.systemTake b).stagingRight := by
  have hempty : s.ctrl.opState.unloaded → s.stagingEmpty := h.empty
  unfold State.systemTake
  split
  · rename_i ho
    exact (State.recoveryTake_empty (hempty (by simp [ho, OpState.unloaded])) b).right
  · rename_i ho
    exact State.loaderTake_stagingRight (hempty (by simp [ho, OpState.unloaded])) b
  · rename_i ho
    exact State.loaderTake_stagingRight (hempty (by simp [ho, OpState.unloaded])) b
  · rename_i ho
    exact (State.formatTake_empty (hempty (by simp [ho, OpState.unloaded]))).right
  all_goals exact h

/-- R36: every requester's result keeps the rules. -/
theorem State.deliver_stagingRight (h : s.stagingRight) (w : AccessOwner) (b : Byte) (o : Order) :
    (s.deliver w b o).stagingRight := by
  unfold State.deliver
  split
  · exact h.of_eq (by simp) (by simp) (by simp) (by simp)
  · exact State.writerTake_stagingRight h b o
  · exact State.applierTake_stagingRight h b o
  · exact State.systemTake_stagingRight h b

end

end Sys2Proof.Machine
end

section
/-! SUPPORT. Every command keeps the rules of the staging store, and the invariant's statement. -/

namespace Sys2Proof.Machine

/-! ## Supply, PFAIL# and SRST# -/

/-- R63: the cleared staging store. -/
theorem Staging.cleared_slot (slots : Vector Slot 8) (i : Fin 8) :
    (Staging.cleared slots).slots[i] = Slot.cleared slots[i].image :=
  Vector.getElem_map _ _

/-- R63: the cleared staging store with no live entry and an IDLE Writer is empty. -/
theorem State.stagingEmpty_of_cleared {s : State} {slots : Vector Slot 8} (hs : s.stage = Staging.cleared slots)
    (hw : s.writer = Writer.idle) (hj : s.journal.live = []) : s.stagingEmpty := by
  refine ⟨fun i => ?_, by rw [hs]; rfl, fun t => ?_, by rw [hs]; rfl, hj, by rw [hw]; rfl, by rw [hw]; rfl⟩
  · rw [State.slot, hs, Staging.cleared_slot]
    rfl
  · rw [hs]
    exact Vector.getElem_replicate _

section
variable (s : State)

theorem State.endStarting_stagingRight (h : s.stagingEmpty) : s.endStarting.stagingRight :=
  (h.of_eq (by simp) (by simp) (.inl (by simp))).right

theorem execPowerUp_stagingRight (t : Straps) (h : s.stagingRight) : Always State.stagingRight (execPowerUp t s) := by
  unfold execPowerUp
  split
  · exact always_next.2 (State.endStarting_stagingRight _ (State.stagingEmpty_of_cleared rfl rfl rfl))
  · split
    · exact always_next.2 (State.endStarting_stagingRight _ (State.stagingEmpty_of_cleared rfl rfl rfl))
    · exact always_next.2 h

theorem State.lost_stagingRight : s.lost.stagingRight :=
  (State.stagingEmpty_of_cleared rfl rfl rfl).right

theorem execSupplyLoss_stagingRight (ans : MemAnswer) (h : s.stagingRight) :
    Always State.stagingRight (execSupplyLoss ans s) := by
  unfold execSupplyLoss
  split
  · split
    · split
      · exact always_next.2 (State.lost_stagingRight _)
      · exact always_fault
    · exact always_next.2 s.lost_stagingRight
  · exact always_next.2 h

/-- R154: FROZEN may hold live slots. -/
theorem State.stopOnPfail_stagingRight {s : State} (h : s.stagingRight) : s.stopOnPfail.stagingRight := by
  unfold State.stopOnPfail
  split
  · exact (State.stagingEmpty_of_cleared rfl rfl rfl).right
  · exact h.of_eq rfl rfl rfl (by simp [State.freeze, OpState.unloaded])

theorem State.completeAccess_stagingRight {s t : State} {a : Access} {ans : MemAnswer} {b : Byte} (h : s.stagingRight)
    (hc : s.completeAccess a ans = some (t, b)) : t.stagingRight := by
  obtain ⟨-, ⟨-, rfl⟩ | ⟨v, c, -, rfl⟩⟩ := State.completeAccess_cases hc <;> exact h.of_eq rfl rfl rfl id

theorem execPfailAssert_stagingRight (ans : MemAnswer) (h : s.stagingRight) :
    Always State.stagingRight (execPfailAssert ans s) := by
  have hpin : (s.setPins { s.pins with pfail := true }).stagingRight := h.of_eq rfl rfl rfl id
  unfold execPfailAssert
  dsimp only
  split
  · split
    · split
      · exact always_next.2 (State.stopOnPfail_stagingRight (State.completeAccess_stagingRight hpin ‹_›))
      · exact always_fault
    · exact always_next.2 (State.stopOnPfail_stagingRight hpin)
  · exact always_next.2 hpin

theorem execPfailRestart_stagingRight (h : s.stagingRight) : Always State.stagingRight (execPfailRestart s) := by
  unfold execPfailRestart
  dsimp only
  split
  · refine always_next.2 (State.grant_stagingRight (State.stagingEmpty.right ?_))
    exact State.stagingEmpty_of_cleared (slots := s.stage.slots) rfl rfl rfl
  · exact always_next.2 (h.of_eq rfl rfl rfl id)

/-- R45, R61: the slots in a state. -/
theorem Staging.mem_withState {g : Staging} {st : SlotState} {i : Fin 8} :
    i ∈ g.withState st ↔ g.slots[i].state = st := by
  simp [Staging.withState]

theorem State.discardOpen_stagingRight {s : State} (h : s.stagingRight) (ho : ¬s.ctrl.opState.unloaded) :
    s.discardOpen.stagingRight := by
  have hr := (State.stagingRight_iff.1 h).1
  have hfree := hr.freeOpen (is := s.stage.withState .filling ++ s.stage.withState .held)
    (held := Vector.replicate 8 []) (fun i hi => by simpa only [List.mem_append, Staging.mem_withState] using hi)
    fun t => .inr ⟨Vector.getElem_replicate _, fun i hi =>
      List.mem_append_right _ (Staging.mem_withState.2 (((hr.placed i).held t).2 hi).1)⟩
  unfold State.discardOpen
  dsimp only
  split
  · exact h.of_stage hfree rfl rfl ho
  · exact h.of_stage hfree rfl rfl ho

theorem execHostReset_stagingRight (h : s.stagingRight) : Always State.stagingRight (execHostReset s) := by
  unfold execHostReset
  dsimp only
  split
  · exact always_next.2 (h.of_eq rfl rfl rfl id)
  · have hport : ((s.setPins { s.pins with srst := true }).setHost s.host.onReset).stagingRight :=
      h.of_eq rfl rfl rfl id
    split
    · rename_i ho
      refine always_next.2 (State.discardOpen_stagingRight hport ?_)
      rcases (show s.ctrl.opState = .running ∨ s.ctrl.opState = .faulted from ho) with ho | ho <;>
        simp [ho, OpState.unloaded]
    · exact always_next.2 hport

/-! ## Host cycles and engines -/

theorem execHostCycle_stagingRight (sel rd wr : Bool) (a : Addr) (d : Byte) (h : s.stagingRight) :
    Always State.stagingRight (execHostCycle sel rd wr a d s) := by
  unfold execHostCycle
  split
  · exact always_next.2 (State.grant_stagingRight (State.serve_stagingRight (h.of_eq rfl rfl rfl id)))
  · exact always_next.2 h

theorem execHostCycleEnd_stagingRight (h : s.stagingRight) : Always State.stagingRight (execHostCycleEnd s) := by
  unfold execHostCycleEnd
  split <;> exact always_next.2 (h.of_eq rfl rfl rfl id)

theorem execHostCycleWithdrawn_stagingRight (h : s.stagingRight) :
    Always State.stagingRight (execHostCycleWithdrawn s) := by
  unfold execHostCycleWithdrawn
  (repeat' split) <;> exact always_next.2 (h.of_eq rfl rfl rfl id)

theorem execMemoryAccessComplete_stagingRight (ans : MemAnswer) (o : Order) (h : s.stagingRight) :
    Always State.stagingRight (execMemoryAccessComplete ans o s) := by
  unfold execMemoryAccessComplete
  split
  · split
    · split
      · exact always_next.2 (State.afterAccess_stagingRight
          (State.deliver_stagingRight (State.completeAccess_stagingRight h ‹_›) _ _ _) _)
      · exact always_fault
    · exact always_next.2 h
  · exact always_next.2 h

/-- R108: the Writer takes the head group, which its slots' states follow. -/
theorem execWriterTakeGroup_stagingRight (h : s.stagingRight) : Always State.stagingRight (execWriterTakeGroup s) := by
  unfold execWriterTakeGroup
  split
  · rename_i hfree
    simp only [State.writerFree, Bool.and_eq_true, beq_iff_eq] at hfree
    obtain ⟨⟨⟨-, ho⟩, hidle⟩, -⟩ := hfree
    split
    · rename_i grp rest hq
      refine always_next.2 (State.chooseThenHeld_stagingRight (State.mergeOn_stagingRight ?_ nofun))
      obtain ⟨hr, he, -, hp, -⟩ := State.stagingRight_iff.1 h
      have hnone : s.writer.slots = [] := by simp [Writer.slots, hp.1 hidle]
      rw [hnone] at hr
      rw [State.stagingRight_iff]
      refine ⟨hr.takeGroup hq, he, ?_, iff_of_false nofun nofun, fun hu => ?_⟩
      · rintro g ⟨⟩
        exact hr.sized grp (hq ▸ List.mem_cons_self)
      · exact absurd (ho ▸ hu : OpState.running.unloaded) OpState.not_unloaded_running
    · exact always_next.2 h
  · exact always_next.2 h

theorem execWriterPlace_stagingRight (h : s.stagingRight) : Always State.stagingRight (execWriterPlace s) := by
  unfold execWriterPlace
  split
  · rename_i hp
    simp only [State.writerPlacing, Bool.and_eq_true, beq_iff_eq] at hp
    exact always_next.2 (State.chooseThenHeld_stagingRight
      (State.placeEntry_stagingRight h (by rw [hp.2]; nofun)))
  · exact always_next.2 h

theorem execApplierTakeEntry_stagingRight (h : s.stagingRight) :
    Always State.stagingRight (execApplierTakeEntry s) := by
  unfold execApplierTakeEntry
  split
  · rename_i hfree
    simp only [State.applierFree, Bool.and_eq_true, beq_iff_eq] at hfree
    obtain ⟨⟨-, ho⟩, -⟩ := hfree
    split
    · rename_i e rest hl
      refine always_next.2 (State.chooseThenHeld_stagingRight (State.stagingRight.of_stage h
        ((State.stagingRight_iff.1 h).1.apply fun i hi => ?_) rfl rfl fun hu => ?_))
      · simp [Journal.slots, hl, hi]
      · exact absurd (ho ▸ hu : OpState.running.unloaded) OpState.not_unloaded_running
    · exact always_next.2 h
  · exact always_next.2 h

/-! ## Management commands that act on the engines and the store -/

/-- R189: an effect that keeps the rules keeps them at the effect point. -/
theorem State.effectPoint_stagingRight (h : s.stagingRight) (c : MgmtCommand) (ps : List Byte) {act : State → State}
    (ha : c.accepted s.ctrl.opState s.ctrl.format.isSome = true → (act s).stagingRight) :
    Always State.stagingRight (.next (s.effectPoint c ps act)) :=
  always_next.2 (State.effectPoint_of h (h.of_eq rfl rfl rfl id) ha)

/-- R167: the profile image takes a FREE slot into a group of its own. -/
theorem Staging.Right.queueSlot {g : Staging} {w j : List (Fin 8)} (h : g.Right w j) {i : Fin 8}
    (hi : g.slots[i].state = .free) {x : Slot} (hx : x.state = .queued) (hp : x.region = .profile) (n : Word16) :
    Staging.Right { (g.setSlot i x) with openCounter := n, queue := g.queue ++ [{ tag := i, slots := [i] }] } w j := by
  have hs := g.setSlot_same i x
  have ho : ∀ k, k ≠ i → (g.setSlot i x).slots[k] = g.slots[k] := fun k hk => g.setSlot_other x hk
  have hqd : Staging.queued { (g.setSlot i x) with openCounter := n, queue := g.queue ++ [{ tag := i, slots := [i] }] }
      = g.queued ++ [i] := by simp [Staging.queued]
  have hh : (g.setSlot i x).held = g.held := rfl
  have hc : (g.setSlot i x).chain = g.chain := rfl
  have hsz : Group.sized { tag := i, slots := [i] } := by simp [Group.sized]
  have hp := h.placed i
  generalize g.setSlot i x = g' at *
  refine ⟨fun k => ?_, h.filling.of_moved (is := [i]) (fun k hk => ?_) fun k hk => ho k (List.mem_singleton.not.1 hk), ?_,
    h.writerNodup, h.journalNodup, hh ▸ h.heldNodup, hh ▸ h.heldLength, ?_, hc ▸ h.chainNodup⟩
  · have hk := h.placed k
    by_cases hki : k = i
    · subst hki
      constructor <;> grind [Staging.Placed]
    · have := ho k hki
      constructor <;> grind [Staging.Placed]
  · rw [List.mem_singleton.1 hk]
    exact fun e => by rw [hs, hx] at e; cases e
  · have := h.queuedNodup
    grind [Staging.Placed]
  · have := h.sized
    grind

theorem State.queueProfile_stagingRight {s : State} (h : s.stagingRight) {i : Fin 8}
    (hi : s.stage.slots[i].state = .free) (ho : ¬s.ctrl.opState.unloaded) : (s.queueProfile i).stagingRight :=
  h.of_stage ((State.stagingRight_iff.1 h).1.queueSlot hi rfl rfl _) rfl rfl ho

theorem execStoreProfile_stagingRight (h : s.stagingRight) : Always State.stagingRight (execStoreProfile s) := by
  refine s.effectPoint_stagingRight h _ _ fun ha => ?_
  have ho : ¬s.ctrl.opState.unloaded := by
    have hrun : s.ctrl.opState = .running := by simpa [MgmtCommand.accepted] using ha
    exact fun hu => OpState.not_unloaded_running (hrun ▸ hu)
  split
  · rename_i i hi
    have hq := State.queueProfile_stagingRight h (Staging.lowestFree_state hi) ho
    exact State.grant_stagingRight (State.redecodeHeld_stagingRight (hq.of_eq rfl rfl rfl id))
  · exact h.of_eq rfl rfl rfl id

theorem Staging.allFree_iff {g : Staging} : g.allFree = true ↔ ∀ i : Fin 8, g.slots[i].state = .free := by
  simp [Staging.allFree]

theorem execLoadProfile_stagingRight (h : s.stagingRight) : Always State.stagingRight (execLoadProfile s) := by
  refine s.effectPoint_stagingRight h _ _ fun ha => ?_
  split
  · rename_i hfree
    refine State.grant_stagingRight ?_
    obtain ⟨hr, he, hg, hp, -⟩ := State.stagingRight_iff.1 h
    exact State.stagingRight_iff.2 ⟨hr, he, hg, hp, fun _ => Staging.allFree_iff.1 hfree⟩
  · exact h.of_eq rfl rfl rfl id

theorem State.resumeWriter_stagingRight {s : State} (h : s.stagingRight) : s.resumeWriter.stagingRight := by
  unfold State.resumeWriter
  dsimp only
  split
  · obtain ⟨hg, hp⟩ := Writer.resumedLater_group { s.writer with retry := 0 }
    exact State.setWriter_stagingRight h hg (by rw [hp])
  · obtain ⟨hg, hp⟩ := Writer.resumed_group { s.writer with retry := 0 }
    exact State.setWriter_stagingRight h hg hp

/-- R126 to R128, R149: the part as RESUME leaves it before the merge goes on. -/
def State.resumeReady (s : State) : State :=
  let s := s.resumeWriter.resumeApplier
  let s := if s.ctrl.cause = .recovery then s.beginClearing else s
  (s.setCtrl { s.ctrl with cause := .noCause }).enterState .running

/-- R127: the merge then goes on. -/
theorem State.resumeEngines_eq (s : State) :
    s.resumeEngines = if s.resumeReady.writer.phase = .merge then s.resumeReady.mergeOn else s.resumeReady := rfl

theorem State.resumeReady_stagingRight {s : State} (h : s.stagingRight) : s.resumeReady.stagingRight := by
  have hengines : s.resumeWriter.resumeApplier.stagingRight :=
    (State.resumeWriter_stagingRight h).of_eq (by simp) (by simp) (by simp) (by simp)
  have hrun : ∀ {t : State}, t.stagingRight →
      ((t.setCtrl { t.ctrl with cause := .noCause }).enterState .running).stagingRight := fun {t} ht =>
    ht.of_eq rfl rfl rfl fun hu => absurd hu OpState.not_unloaded_running
  unfold State.resumeReady
  dsimp only
  split
  · exact hrun (State.setWriter_stagingRight hengines rfl Iff.rfl)
  · exact hrun hengines

theorem State.resumeEngines_stagingRight {s : State} (h : s.stagingRight) : s.resumeEngines.stagingRight := by
  rw [State.resumeEngines_eq]
  split
  · rename_i hm
    exact State.mergeOn_stagingRight (State.resumeReady_stagingRight h) (by rw [hm]; nofun)
  · exact State.resumeReady_stagingRight h

theorem execResume_stagingRight (h : s.stagingRight) : Always State.stagingRight (execResume s) :=
  s.effectPoint_stagingRight h _ _ fun _ =>
    State.grant_stagingRight ((State.resumeEngines_stagingRight h).of_eq rfl rfl rfl id)

/-- R77: a held list is freed and emptied as a whole. -/
theorem State.discardHeldOn_stagingRight {s : State} (h : s.stagingRight) (t : Fin 8) (ho : ¬s.ctrl.opState.unloaded) :
    (s.discardHeldOn t).stagingRight := by
  have hr := (State.stagingRight_iff.1 h).1
  have hkeep : (s.stage.freeSlots s.stage.held[t]).held = s.stage.held := (s.stage.freeSlots_cases _).2.2.2.1
  have hfree := hr.freeOpen (is := s.stage.held[t])
    (held := (s.stage.freeSlots s.stage.held[t]).held.set t []) (fun i hi => .inr (((hr.placed i).held t).2 hi).1) fun k => by
      rw [hkeep]
      by_cases hk : k = t
      · subst hk
        exact .inr ⟨Vector.getElem_set_self _, fun i hi => hi⟩
      · refine .inl ⟨Vector.getElem_set_ne _ _ fun e => hk (Fin.ext e.symm), fun i hi hi' => hk ?_⟩
        have h1 := (((hr.placed i).held t).2 hi).2
        have h2 := (((hr.placed i).held k).2 hi').2
        exact Option.some.inj (h2.symm.trans h1)
  unfold State.discardHeldOn
  dsimp only
  split
  · exact h.of_stage hfree rfl rfl ho
  · exact h.of_stage hfree rfl rfl ho

theorem execDiscardHeld_stagingRight (trigger : Option Byte) (h : s.stagingRight) :
    Always State.stagingRight (execDiscardHeld trigger s) := by
  cases trigger with
  | none =>
    obtain hq := s.takeBytes_quietTo .discardHeld [] _ rfl
    exact always_next.2 (h.of_eq hq.stage hq.writer (congrArg _ hq.journal) (by rw [hq.opState]; exact id))
  | some b =>
    refine s.effectPoint_stagingRight h _ _ fun ha => ?_
    have ho : ¬s.ctrl.opState.unloaded := by
      have : s.ctrl.opState = .running ∨ s.ctrl.opState = .faulted := by simpa [MgmtCommand.accepted] using ha
      rcases this with e | e <;> simp [e, OpState.unloaded]
    cases index8 b with
    | none => exact h.of_eq rfl rfl rfl id
    | some t =>
      exact State.grant_stagingRight (State.endSlotHold_stagingRight
        ((State.discardHeldOn_stagingRight h t ho).of_eq rfl rfl rfl id))

/-! ## Every command and the step -/

/-- Every command keeps the rules of the staging store. -/
theorem exec_stagingRight (c : Instr) {s : State} (h : s.stagingRight) : Always State.stagingRight (exec c s) := by
  by_cases hc : c.quiet = true
  · intro t ht
    have hq := exec_quietTo s c hc t ht
    exact h.of_eq hq.stage hq.writer (congrArg _ hq.journal) (by rw [hq.opState]; exact id)
  cases c with
  | powerUp t => exact execPowerUp_stagingRight s t h
  | supplyLoss ans => exact execSupplyLoss_stagingRight s ans h
  | pfailAssert ans => exact execPfailAssert_stagingRight s ans h
  | pfailRestart => exact execPfailRestart_stagingRight s h
  | hostReset => exact execHostReset_stagingRight s h
  | hostCycle sel rd wr a d => exact execHostCycle_stagingRight s sel rd wr a d h
  | hostCycleEnd => exact execHostCycleEnd_stagingRight s h
  | hostCycleWithdrawn => exact execHostCycleWithdrawn_stagingRight s h
  | memoryAccessComplete ans o => exact execMemoryAccessComplete_stagingRight s ans o h
  | writerTakeGroup => exact execWriterTakeGroup_stagingRight s h
  | writerPlace => exact execWriterPlace_stagingRight s h
  | applierTakeEntry => exact execApplierTakeEntry_stagingRight s h
  | storeProfile => exact execStoreProfile_stagingRight s h
  | loadProfile => exact execLoadProfile_stagingRight s h
  | format => exact s.effectPoint_stagingRight h _ _ fun _ => State.grant_stagingRight (h.of_eq rfl rfl rfl id)
  | resume => exact execResume_stagingRight s h
  | discardHeld trigger => exact execDiscardHeld_stagingRight s trigger h
  | _ => exact absurd rfl hc

end

end Sys2Proof.Machine

open Sys2Proof.Machine

/-- Settles O8: each operation moves whole lists of slots between their places, and the cycles, the engines, recovery and the
management port change the store by these operations alone. -/
theorem stagingStoreStaysRight : Obligations.StagingStoreStaysRight := fun _ _ hstep =>
  step_keeps (fun hq h => h.of_eq hq.stage hq.writer (congrArg _ hq.journal) (by rw [hq.opState]; exact id))
    (fun c _ => exec_stagingRight c) hstep
end

section
/-! SUPPORT. The event queue's bound and serials, and ALERT#, under every operation that reports an event (R176 to R178, R180,
R182). -/

namespace Sys2Proof.Machine

/-! ## The event block alone -/

/-- R177: the queue holds no OVERFLOW entry exactly where it counts none. -/
theorem EventBlock.hasOverflow_iff {e : EventBlock} :
    e.hasOverflow = true ↔ 0 < e.queue.countP fun r => r.report.kind == .overflow := by
  simp [EventBlock.hasOverflow, List.countP_pos_iff]

/-- R178: what a push does to the queue and the counter. -/
theorem EventBlock.push_queue (e : EventBlock) (r : EventReport) :
    (e.push r).queue = e.queue ++ [{ report := r, serial := e.serial }] ∧ (e.push r).serial = e.serial + 1 :=
  ⟨rfl, rfl⟩

/-- R177: one more drop keeps the kind and the serial of a record. -/
theorem EventRecord.bump_kind (r : EventRecord) : r.bump.report.kind = r.report.kind ∧ r.bump.serial = r.serial := by
  unfold EventRecord.bump
  split
  · exact ⟨rfl, rfl⟩
  · exact ⟨rfl, rfl⟩

/-- R178: a record that joins the tail has the number before the counter's new value. -/
theorem EventBlock.serialsRise.push {e : EventBlock} (h : e.serialsRise) (r : EventReport) : (e.push r).serialsRise := by
  intro k x hx
  simp only [EventBlock.push_queue, List.length_append, List.length_singleton] at hx ⊢
  have hk : k < e.queue.length + 1 := by
    have := (List.getElem?_eq_some_iff.1 hx).1
    simpa using this
  rcases Nat.lt_or_ge k e.queue.length with hlt | hge
  · rw [List.getElem?_append_left hlt] at hx
    rw [h k x hx, show e.queue.length + 1 - k = e.queue.length - k + 1 by omega]
    bv_omega
  · obtain rfl : k = e.queue.length := by omega
    rw [List.getElem?_append_right le_rfl] at hx
    simp only [Nat.sub_self, List.getElem?_cons_zero, Option.some.injEq] at hx
    rw [← hx, Nat.add_sub_cancel_left]
    bv_omega

/-- R177, R178: an arrival keeps the serials rising. -/
theorem EventBlock.serialsRise.arrive {e : EventBlock} (h : e.serialsRise) (r : EventReport) :
    (e.arrive r).serialsRise := by
  unfold EventBlock.arrive
  split
  · exact h.push r
  · split
    · split
      · exact h.push r
      · exact h.push _
    · intro k x hx
      simp only [List.getElem?_map, Option.map_eq_some_iff] at hx
      obtain ⟨y, hy, rfl⟩ := hx
      rw [y.bump_kind.2, List.length_map]
      exact h k y hy

/-- R177: an arrival keeps the bound; only the queue itself makes OVERFLOW entries. -/
theorem EventBlock.bounded.arrive {e : EventBlock} (h : e.bounded) {r : EventReport} (hr : r.kind ≠ .overflow) :
    (e.arrive r).bounded := by
  obtain ⟨hlen, hone, hfull⟩ := h
  have hr' : (r.kind == EventKind.overflow) = false := by simpa using hr
  unfold EventBlock.arrive EventBlock.bounded
  split
  · simp only [EventBlock.hasOverflow_iff, EventBlock.push_queue, List.length_append, List.countP_append,
      List.length_singleton, List.countP_singleton, hr', Bool.false_eq_true, if_false]
    omega
  · split
    · split
      · rename_i hov
        rw [EventBlock.hasOverflow_iff] at hov
        simp only [EventBlock.hasOverflow_iff, EventBlock.push_queue, List.length_append, List.countP_append,
          List.length_singleton, List.countP_singleton, hr', Bool.false_eq_true, if_false]
        omega
      · rename_i hov
        rw [EventBlock.hasOverflow_iff] at hov
        simp only [EventBlock.hasOverflow_iff, EventBlock.push_queue, List.length_append, List.countP_append,
          List.length_singleton, List.countP_singleton, EventReport.overflow, beq_self_eq_true, if_true]
        omega
    · have hkind : ((fun r : EventRecord => r.report.kind == EventKind.overflow) ∘ EventRecord.bump)
          = fun r => r.report.kind == EventKind.overflow := by
        funext x
        simp [x.bump_kind.1]
      simp only [EventBlock.hasOverflow_iff, List.length_map, List.countP_map, hkind] at hfull ⊢
      exact ⟨hlen, hone, hfull⟩

/-- R180: the removal of the head, with the growth of an OVERFLOW appended, keeps bound and serials. -/
theorem EventBlock.removeHead_right {e : EventBlock} (h : e.bounded) (hs : e.serialsRise) (n : Byte) :
    (e.removeHead n).bounded ∧ (e.removeHead n).serialsRise := by
  obtain ⟨hlen, hone, hfull⟩ := h
  unfold EventBlock.removeHead
  split
  · exact ⟨⟨hlen, hone, hfull⟩, hs⟩
  · rename_i r rest hq
    simp only [hq, List.length_cons, List.countP_cons] at hlen hone
    have hrest : EventBlock.serialsRise { e with queue := rest } := by
      intro k x hx
      have := hs (k + 1) x (by rw [hq]; exact hx)
      rw [this, hq, List.length_cons, Nat.add_sub_add_right]
    split
    · rename_i hov
      refine ⟨?_, hrest.push _⟩
      simp only [hov.1, beq_self_eq_true, if_true] at hone
      simp only [EventBlock.bounded, EventBlock.hasOverflow_iff, EventBlock.push_queue, List.length_append,
        List.countP_append, List.length_singleton, List.countP_singleton, EventReport.overflow, beq_self_eq_true, if_true]
      omega
    · refine ⟨?_, hrest⟩
      simp only [EventBlock.bounded, EventBlock.hasOverflow_iff]
      omega

/-! ## What an operation keeps of the event block -/

/-- From `s` to `t` the bound and the serials are kept, and so is ALERT#. -/
def State.eventsKeep (s t : State) : Prop :=
  (s.events.bounded → s.events.serialsRise → t.events.bounded ∧ t.events.serialsRise) ∧ (s.alertRight → t.alertRight)

namespace State.eventsKeep

@[simp] theorem refl (s : State) : s.eventsKeep s := ⟨fun h h' => ⟨h, h'⟩, id⟩

theorem trans {s t u : State} (h : s.eventsKeep t) (h' : t.eventsKeep u) : s.eventsKeep u :=
  ⟨fun hb hs => h'.1 (h.1 hb hs).1 (h.1 hb hs).2, h'.2 ∘ h.2⟩

section
variable {s t u : State}

/-- A change of neither the events nor the mask. -/
theorem of_eq (h : s.eventsKeep t) (he : u.events = t.events) (hm : u.table.mask = t.table.mask) : s.eventsKeep u := by
  obtain ⟨hb, ha⟩ := h
  refine ⟨by rwa [he], fun h => ?_⟩
  have := ha h
  rwa [State.alertRight, he, hm]

@[simp] theorem setPending (x : List Instr) : s.eventsKeep (t.setPending x) ↔ s.eventsKeep t := Iff.rfl
@[simp] theorem setSupply (x : Bool) : s.eventsKeep (t.setSupply x) ↔ s.eventsKeep t := Iff.rfl
@[simp] theorem setPins (x : Pins) : s.eventsKeep (t.setPins x) ↔ s.eventsKeep t := Iff.rfl
@[simp] theorem setCtrl (x : Controller) : s.eventsKeep (t.setCtrl x) ↔ s.eventsKeep t := Iff.rfl
@[simp] theorem setStage (x : Staging) : s.eventsKeep (t.setStage x) ↔ s.eventsKeep t := Iff.rfl
@[simp] theorem setJournal (x : Journal) : s.eventsKeep (t.setJournal x) ↔ s.eventsKeep t := Iff.rfl
@[simp] theorem setWriter (x : Writer) : s.eventsKeep (t.setWriter x) ↔ s.eventsKeep t := Iff.rfl
@[simp] theorem setApplier (x : Applier) : s.eventsKeep (t.setApplier x) ↔ s.eventsKeep t := Iff.rfl
@[simp] theorem setHost (x : HostPort) : s.eventsKeep (t.setHost x) ↔ s.eventsKeep t := Iff.rfl
@[simp] theorem setPort (x : MemPort) : s.eventsKeep (t.setPort x) ↔ s.eventsKeep t := Iff.rfl
@[simp] theorem setMgmt (x : MgmtPort) : s.eventsKeep (t.setMgmt x) ↔ s.eventsKeep t := Iff.rfl
@[simp] theorem setMem (x : Memory) : s.eventsKeep (t.setMem x) ↔ s.eventsKeep t := Iff.rfl
@[simp] theorem setFreeDraws (x : Nat) : s.eventsKeep (t.setFreeDraws x) ↔ s.eventsKeep t := Iff.rfl
@[simp] theorem setRecovery (x : Recovery) : s.eventsKeep (t.setRecovery x) ↔ s.eventsKeep t := Iff.rfl
@[simp] theorem enterState (o : OpState) : s.eventsKeep (t.enterState o) ↔ s.eventsKeep t := Iff.rfl
@[simp] theorem answerRead (b : Byte) : s.eventsKeep (t.answerRead b) ↔ s.eventsKeep t := Iff.rfl
@[simp] theorem answerWrite : s.eventsKeep t.answerWrite ↔ s.eventsKeep t := Iff.rfl
@[simp] theorem postRequest : s.eventsKeep t.postRequest ↔ s.eventsKeep t := Iff.rfl
@[simp] theorem holdCycle (k : HoldKind) : s.eventsKeep (t.holdCycle k) ↔ s.eventsKeep t := Iff.rfl
@[simp] theorem writeReport (o : RecoveryOutcome) (n : Nat) (l d a : Bool) (g : Word16) (f : Nat) :
    s.eventsKeep (t.writeReport o n l d a g f) ↔ s.eventsKeep t := Iff.rfl

@[simp] theorem setTable (h : s.eventsKeep t) {x : RegionTable} (hm : x.mask = t.table.mask) :
    s.eventsKeep (t.setTable x) :=
  h.of_eq rfl hm

/-- R177, R178, R182: an event is logged and ALERT# is evaluated. -/
@[simp] theorem logEvent (h : s.eventsKeep t) {r : EventReport} (hr : r.kind ≠ .overflow) : s.eventsKeep (t.logEvent r) :=
  ⟨fun hb hs => ⟨(h.1 hb hs).1.arrive hr, (h.1 hb hs).2.arrive r⟩, fun _ => rfl⟩

/-- R182: ALERT# is evaluated with the mask. -/
@[simp] theorem changeMask (h : s.eventsKeep t) (m : Word16) : s.eventsKeep (t.changeMask m) :=
  ⟨h.1, fun _ => rfl⟩

/-- R182: ALERT# is evaluated afresh. -/
theorem evaluate (h : s.eventsKeep t) : s.eventsKeep (t.setEvents (t.events.evaluate t.table.mask)) :=
  ⟨h.1, fun _ => rfl⟩

/-- R184: the cleared event block. -/
theorem cleared (h : t.events = EventBlock.cleared) : s.eventsKeep t := by
  refine ⟨fun _ _ => ?_, fun _ => ?_⟩
  · rw [h]
    exact ⟨by simp [EventBlock.bounded, EventBlock.cleared], fun k r hk => by simp [EventBlock.cleared] at hk⟩
  · rw [State.alertRight, h]
    rfl

end
end State.eventsKeep

/-! ## Host cycles -/

section
variable {s t : State}

@[simp] theorem State.eventsKeep.writeDenied (h : s.eventsKeep t) (d : Byte) (r : Option (Fin 8)) :
    s.eventsKeep (t.writeDenied d r) := by
  simp [State.writeDenied, h]

@[simp] theorem State.eventsKeep.serveHidden (h : s.eventsKeep t) (c : AddrClass) : s.eventsKeep (t.serveHidden c) := by
  unfold State.serveHidden
  cases t.host.kind <;> simp [h]

@[simp] theorem State.eventsKeep.closeSlot (h : s.eventsKeep t) (i : Fin 8) (r : RecordRef) :
    s.eventsKeep (t.closeSlot i r) := by
  unfold State.closeSlot
  split
  · split
    · simp [h]
    · simp [State.groupLimit, h]
  · split <;> simp [h]

@[simp] theorem State.eventsKeep.storeInto (h : s.eventsKeep t) (i : Fin 8) (r : RecordRef) :
    s.eventsKeep (t.storeInto i r) := by
  unfold State.storeInto
  dsimp only
  split <;> simp [h]

@[simp] theorem State.eventsKeep.stageWrite (h : s.eventsKeep t) (r : RecordRef) : s.eventsKeep (t.stageWrite r) := by
  unfold State.stageWrite
  split
  · simp [h]
  · split
    · simp [h]
    · split
      · simp [h]
      · simp [State.stageFull, h]

@[simp] theorem State.eventsKeep.serveRunning (h : s.eventsKeep t) (k : Lookup) : s.eventsKeep (t.serveRunning k) := by
  unfold State.serveRunning
  split
  · simp [h]
  · split <;> simp [h]
  · simp [h]
  · simp [h]
  · split
    · exact h.of_eq (by simp) (by simp)
    · simp [h]
    · simp [h]

@[simp] theorem State.eventsKeep.serve (h : s.eventsKeep t) : s.eventsKeep t.serve := by
  unfold State.serve
  dsimp only
  split
  iterate 4 simp [h]
  · simp [h]
  · unfold State.serveFaulted
    split <;> simp [h]
  · split
    · simp [h]
    · unfold State.serveLocked
      split <;> simp [h]
  · exact h

@[simp] theorem State.eventsKeep.endStateHold (h : s.eventsKeep t) : s.eventsKeep t.endStateHold := by
  unfold State.endStateHold
  split <;> simp [h]

@[simp] theorem State.eventsKeep.redecodeHeld (h : s.eventsKeep t) : s.eventsKeep t.redecodeHeld := by
  unfold State.redecodeHeld
  split <;> simp [h]

@[simp] theorem State.eventsKeep.endSlotHold (h : s.eventsKeep t) : s.eventsKeep t.endSlotHold := by
  unfold State.endSlotHold
  split <;> simp [h]

@[simp] theorem State.eventsKeep.refuseSlotHold (h : s.eventsKeep t) : s.eventsKeep t.refuseSlotHold := by
  unfold State.refuseSlotHold
  split <;> simp [h]

@[simp] theorem State.eventsKeep.grant (h : s.eventsKeep t) : s.eventsKeep t.grant :=
  h.of_eq (by simp) (by simp)

@[simp] theorem State.eventsKeep.grantBy (h : s.eventsKeep t) (o : Order) : s.eventsKeep (t.grantBy o) :=
  h.of_eq (by simp) (by simp)

@[simp] theorem State.eventsKeep.grantAmong (h : s.eventsKeep t) (rs : List Requester) : s.eventsKeep (t.grantAmong rs) :=
  h.of_eq (by simp) (by simp)

@[simp] theorem State.eventsKeep.chooseThenHeld (h : s.eventsKeep t) : s.eventsKeep t.chooseThenHeld := by
  unfold State.chooseThenHeld
  dsimp only
  refine .grant ?_
  split <;> simp [h]

@[simp] theorem State.eventsKeep.afterAccess (h : s.eventsKeep t) (o : Order) : s.eventsKeep (t.afterAccess o) := by
  unfold State.afterAccess
  split
  · simp [h]
  · simp [h]
  · simp [h]
  · split <;> simp [h]

/-! ## The engines -/

@[simp] theorem State.eventsKeep.enterFaulted (h : s.eventsKeep t) (c : FaultCause) (e : Requester) (o : Order) :
    s.eventsKeep (t.enterFaulted c e o) := by
  unfold State.enterFaulted
  refine .refuseSlotHold (.logEvent ?_ (by simp))
  cases o <;> simp [h]

@[simp] theorem State.eventsKeep.journalFault (h : s.eventsKeep t) (a : Nat) (o : Order) :
    s.eventsKeep (t.journalFault a o) := by
  unfold State.journalFault
  split
  · split <;> simp [State.logJournalFault, h]
  · exact h

@[simp] theorem State.eventsKeep.writerAdvance (h : s.eventsKeep t) (r : StepResult) (o : Order) :
    s.eventsKeep (t.writerAdvance r o) := by
  unfold State.writerAdvance
  split
  · simp [h]
  · simp [h]
  · simp [h]
  · simp [h]
  · exact h.of_eq (by simp) (by simp)
  · exact h

@[simp] theorem State.eventsKeep.writerTake (h : s.eventsKeep t) (b : Byte) (o : Order) :
    s.eventsKeep (t.writerTake b o) := by
  have step : ∀ r, s.eventsKeep (if t.writer.resuming then t.writerResume r o else t.writerAdvance r o) := by
    intro r
    split
    · unfold State.writerResume
      cases r <;> simp [h]
    · simp [h]
  unfold State.writerTake
  split
  · split
    · exact h.of_eq (by simp) (by simp)
    · exact h
  · exact h.of_eq (by simp) (by simp)
  · exact h
  all_goals exact step _

@[simp] theorem State.eventsKeep.logProfileStored (h : s.eventsKeep t) (is : List (Fin 8)) :
    s.eventsKeep (is.foldl State.logProfileStored t) := by
  induction is generalizing t with
  | nil => exact h
  | cons i is ih =>
    refine ih ?_
    unfold State.logProfileStored
    split <;> simp [h]

@[simp] theorem State.eventsKeep.applierAdvance (h : s.eventsKeep t) (r : StepResult) (o : Order) :
    s.eventsKeep (t.applierAdvance r o) := by
  unfold State.applierAdvance
  split
  · unfold State.applyFault
    split
    · split <;> simp [State.logApplyFault, h]
    · exact h
  · simp [h]
  · split <;> simp [h]
  · simp [h]
  · unfold State.anchorDone
    split <;> simp [h]
  · exact h

@[simp] theorem State.eventsKeep.applierTake (h : s.eventsKeep t) (b : Byte) (o : Order) :
    s.eventsKeep (t.applierTake b o) := by
  unfold State.applierTake
  dsimp only
  split
  · unfold State.applierResume
    cases stepResult t.applierProgram t.applier.idx b <;> simp [h]
  · simp [h]

/-! ## Recovery, the format and the loader -/

@[simp] theorem State.eventsKeep.beginLoad (h : s.eventsKeep t) (o : OpState) : s.eventsKeep (t.beginLoad o) := by
  simp [State.beginLoad, h]

@[simp] theorem State.eventsKeep.beginRecovery (h : s.eventsKeep t) (c : StartCause) : s.eventsKeep (t.beginRecovery c) :=
  h.of_eq (by simp) (by simp)

@[simp] theorem State.eventsKeep.scanEnd (h : s.eventsKeep t) : s.eventsKeep t.scanEnd := by
  simp [State.scanEnd, State.logRecovered, State.describeJournal, h]

@[simp] theorem State.eventsKeep.recoveryFault (h : s.eventsKeep t) : s.eventsKeep t.recoveryFault := by
  unfold State.recoveryFault
  refine .endStateHold ((State.eventsKeep.enterState _).2 (.logEvent ?_ (by simp)))
  exact (State.eventsKeep.setCtrl _).2 (.logEvent (by simp [State.describeJournal, h]) (by simp))

@[simp] theorem State.eventsKeep.examine (h : s.eventsKeep t) : s.eventsKeep t.examine := by
  unfold State.examine
  dsimp only
  split <;> simp [h]

@[simp] theorem State.eventsKeep.scanUnfit (h : s.eventsKeep t) (bs : List Byte) : s.eventsKeep (t.scanUnfit bs) := by
  unfold State.scanUnfit
  dsimp only
  split <;> simp [State.scanDamaged, h]

@[simp] theorem State.eventsKeep.scanTake (h : s.eventsKeep t) (b : Byte) : s.eventsKeep (t.scanTake b) := by
  unfold State.scanTake
  dsimp only
  split
  · unfold State.scanMark
    dsimp only
    (repeat' split) <;> simp [State.followPad, h]
  · split
    · simp [h]
    · split
      · unfold State.scanHeader
        dsimp only
        split <;> simp [h]
      · split
        · simp [h]
        · unfold State.scanEntry
          dsimp only
          (repeat' split) <;> simp [State.beginReplay, State.passLag, h]

@[simp] theorem State.eventsKeep.anchorsTake (h : s.eventsKeep t) (b : Byte) : s.eventsKeep (t.anchorsTake b) := by
  unfold State.anchorsTake
  dsimp only
  split
  · simp [h]
  · unfold State.anchorsRead
    dsimp only
    split
    · simp [h]
    · split
      · simp [State.beginAutoFormat, h]
      · unfold State.enterLocked
        refine .endStateHold ((State.eventsKeep.enterState _).2 ((State.eventsKeep.setCtrl _).2 ?_))
        exact .logEvent ((State.eventsKeep.writeReport ..).2 (.logEvent (by simp [h]) (by simp))) (by simp)

@[simp] theorem State.eventsKeep.replayAdvance (h : s.eventsKeep t) (x : StepResult) : s.eventsKeep (t.replayAdvance x) := by
  unfold State.replayAdvance
  dsimp only
  split
  · unfold State.replayFault
    dsimp only
    split
    · exact (State.eventsKeep.setCtrl _).2 (.logEvent h (by simp))
    · exact .recoveryFault (.logEvent h (by simp))
  · simp [h]
  · split <;> simp [h]
  · simp [h]
  · simp [State.replayDone, h]
  · exact h

@[simp] theorem State.eventsKeep.formatTake (h : s.eventsKeep t) : s.eventsKeep t.formatTake := by
  unfold State.formatTake
  split
  · split
    · simp [h]
    · split
      · simp [State.commandedFormatDone, State.logFormatted, h]
      · refine .beginLoad (.logEvent ?_ (by simp)) _
        simp [State.logFormatted, h]
  · exact h

@[simp] theorem State.eventsKeep.logProfileBad (h : s.eventsKeep t) (d : Byte) (r : Option (Fin 8)) (o n : Nat) :
    s.eventsKeep (t.logProfileBad d r o n) := by
  simp [State.logProfileBad, h]

@[simp] theorem State.eventsKeep.loadEntries (h : s.eventsKeep t) (bs : List Byte) (is : List (Fin 8)) :
    s.eventsKeep (is.foldl (State.loadEntry bs) t) := by
  induction is generalizing t with
  | nil => exact h
  | cons i is ih =>
    refine ih ?_
    unfold State.loadEntry
    dsimp only
    (repeat' split) <;> simp [h]

@[simp] theorem State.eventsKeep.loadGood (h : s.eventsKeep t) (bs : List Byte) : s.eventsKeep (t.loadGood bs) := by
  have hdefault : ∀ {u : State}, s.eventsKeep u → s.eventsKeep (u.loadDefault (byteAt bs 3)) := by
    intro u hu
    unfold State.loadDefault
    split <;> simp [hu]
  unfold State.loadGood
  refine .logEvent (.loadEntries (.changeMask (hdefault ?_) _) _ _) (by simp)
  simp [h]

@[simp] theorem State.eventsKeep.loaderTake (h : s.eventsKeep t) (b : Byte) : s.eventsKeep (t.loaderTake b) := by
  unfold State.loaderTake
  split
  · simp [h]
  · unfold State.loadDone
    dsimp only
    refine .endStateHold ((State.eventsKeep.setCtrl _).2 ((State.eventsKeep.enterState _).2 ?_))
    split
    · simp [h]
    · exact .logProfileBad ((State.eventsKeep.setCtrl _).2 (.changeMask (.setTable h rfl) _)) ..

@[simp] theorem State.eventsKeep.systemTake (h : s.eventsKeep t) (b : Byte) : s.eventsKeep (t.systemTake b) := by
  unfold State.systemTake
  split
  · unfold State.recoveryTake
    split <;> simp [h]
  all_goals simp [h]

@[simp] theorem State.eventsKeep.deliver (h : s.eventsKeep t) (w : AccessOwner) (b : Byte) (o : Order) :
    s.eventsKeep (t.deliver w b o) := by
  unfold State.deliver
  split
  · exact h.of_eq (by simp) (by simp)
  all_goals simp [h]

end

/-! ## Commands -/

section
variable (s : State)

/-- R189: an effect that keeps the events keeps them at the effect point. -/
theorem State.effectPoint_eventsKeep (c : MgmtCommand) (ps : List Byte) {act : State → State}
    (h : s.eventsKeep (act s)) : Always s.eventsKeep (.next (s.effectPoint c ps act)) :=
  always_next.2 (State.effectPoint_of (.refl s) ((State.eventsKeep.refl s).of_eq rfl rfl) fun _ => h)

theorem State.endStarting_eventsKeep {s t : State} (h : t.events = EventBlock.cleared) : s.eventsKeep t.endStarting :=
  .cleared (by simpa using h)

theorem State.completeAccess_eventsKeep {s t u : State} {a : Access} {ans : MemAnswer} {b : Byte} (hs : u.eventsKeep s)
    (h : s.completeAccess a ans = some (t, b)) : u.eventsKeep t := by
  obtain ⟨-, ⟨-, rfl⟩ | ⟨v, c, -, rfl⟩⟩ := State.completeAccess_cases h <;> exact hs.of_eq rfl rfl

theorem execPowerUp_eventsKeep (t : Straps) : Always s.eventsKeep (execPowerUp t s) := by
  unfold execPowerUp
  split
  · exact always_next.2 (State.endStarting_eventsKeep rfl)
  · split
    · exact always_next.2 (State.endStarting_eventsKeep rfl)
    · exact always_next.2 (.refl s)

theorem execSupplyLoss_eventsKeep (ans : MemAnswer) : Always s.eventsKeep (execSupplyLoss ans s) := by
  unfold execSupplyLoss
  split
  · split
    · split
      · exact always_next.2 (.cleared rfl)
      · exact always_fault
    · exact always_next.2 (.cleared rfl)
  · exact always_next.2 (.refl s)

theorem State.stopOnPfail_eventsKeep {s t : State} (h : s.eventsKeep t) : s.eventsKeep t.stopOnPfail := by
  unfold State.stopOnPfail
  split
  · exact .cleared rfl
  · exact h.of_eq rfl rfl

theorem execPfailAssert_eventsKeep (ans : MemAnswer) : Always s.eventsKeep (execPfailAssert ans s) := by
  have hpin : s.eventsKeep (s.setPins { s.pins with pfail := true }) := (State.eventsKeep.setPins _).2 (.refl s)
  unfold execPfailAssert
  dsimp only
  split
  · split
    · split
      · exact always_next.2 (State.stopOnPfail_eventsKeep (State.completeAccess_eventsKeep hpin ‹_›))
      · exact always_fault
    · exact always_next.2 (State.stopOnPfail_eventsKeep hpin)
  · exact always_next.2 hpin

theorem execPfailRestart_eventsKeep : Always s.eventsKeep (execPfailRestart s) := by
  have hrestart : ∀ u : State, u.eventsKeep u.restart := fun u => (State.eventsKeep.refl u).of_eq (by simp) rfl
  unfold execPfailRestart
  dsimp only
  split
  · refine always_next.2 (.grant (.beginRecovery ?_ _))
    refine .logEvent (State.eventsKeep.evaluate ?_) (by simp)
    exact .trans ((State.eventsKeep.setPins _).2 (.refl s)) (hrestart _)
  · exact always_next.2 ((State.eventsKeep.setPins _).2 (.refl s))

theorem execHostReset_eventsKeep : Always s.eventsKeep (execHostReset s) := by
  unfold execHostReset
  dsimp only
  split
  · exact always_next.2 (by simp)
  · split
    · refine always_next.2 ?_
      unfold State.discardOpen
      dsimp only
      split
      · simp
      · exact .logEvent (by simp) (by simp)
    · exact always_next.2 (by simp)

theorem execMemoryAccessComplete_eventsKeep (ans : MemAnswer) (o : Order) :
    Always s.eventsKeep (execMemoryAccessComplete ans o s) := by
  unfold execMemoryAccessComplete
  split
  · split
    · split
      · have h := State.completeAccess_eventsKeep (.refl s) ‹_›
        exact always_next.2 (by simp [h])
      · exact always_fault
    · exact always_next.2 (.refl s)
  · exact always_next.2 (.refl s)

/-- R180: the end of a TAKE removes the head record and evaluates ALERT#. -/
theorem execTakeRemove_eventsKeep : Always s.eventsKeep (execTakeRemove s) := by
  unfold execTakeRemove
  dsimp only
  split
  · split
    · exact always_next.2 ⟨fun hb hs => EventBlock.removeHead_right hb hs _, fun _ => rfl⟩
    · exact always_next.2 ((State.eventsKeep.refl s).of_eq rfl rfl)
  · exact always_next.2 (.refl s)

theorem execHostCycle_eventsKeep (sel rd wr : Bool) (a : Addr) (d : Byte) :
    Always s.eventsKeep (execHostCycle sel rd wr a d s) := by
  unfold execHostCycle
  split
  · exact always_next.2 (.grant (.serve (by simp)))
  · exact always_next.2 (.refl s)

theorem execHostCycleEnd_eventsKeep : Always s.eventsKeep (execHostCycleEnd s) := by
  unfold execHostCycleEnd
  split <;> exact always_next.2 (by simp)

theorem execHostCycleWithdrawn_eventsKeep : Always s.eventsKeep (execHostCycleWithdrawn s) := by
  unfold execHostCycleWithdrawn
  (repeat' split) <;> exact always_next.2 (by simp)

theorem execWriterTakeGroup_eventsKeep : Always s.eventsKeep (execWriterTakeGroup s) := by
  unfold execWriterTakeGroup
  split
  · split
    · refine always_next.2 (.chooseThenHeld (.of_eq (.refl s) (by simp) (by simp)))
    · exact always_next.2 (.refl s)
  · exact always_next.2 (.refl s)

theorem execWriterPlace_eventsKeep : Always s.eventsKeep (execWriterPlace s) := by
  unfold execWriterPlace
  split
  · exact always_next.2 (.chooseThenHeld ((State.eventsKeep.refl s).of_eq (by simp) (by simp)))
  · exact always_next.2 (.refl s)

theorem execApplierTakeEntry_eventsKeep : Always s.eventsKeep (execApplierTakeEntry s) := by
  unfold execApplierTakeEntry
  split
  · split
    · exact always_next.2 (by simp)
    · exact always_next.2 (.refl s)
  · exact always_next.2 (.refl s)

theorem execPutRegion_eventsKeep (index : Option Byte) (entry : EntryArg) :
    Always s.eventsKeep (execPutRegion index entry s) := by
  unfold execPutRegion
  split
  · exact always_next.2 ((State.eventsKeep.refl s).of_eq (by simp) (by simp))
  · exact always_next.2 ((State.eventsKeep.refl s).of_eq (by simp) (by simp))
  · refine s.effectPoint_eventsKeep _ _ ?_
    split
    · exact (State.eventsKeep.refl s).of_eq rfl rfl
    · dsimp only
      split <;> exact (State.eventsKeep.refl s).of_eq rfl rfl

theorem execMask_eventsKeep (high low : Option Byte) : Always s.eventsKeep (execMask high low s) := by
  unfold execMask
  split
  · exact always_next.2 ((State.eventsKeep.refl s).of_eq (by simp) (by simp))
  · exact always_next.2 ((State.eventsKeep.refl s).of_eq (by simp) (by simp))
  · exact s.effectPoint_eventsKeep _ _ (.of_eq (.changeMask (.refl s) _) rfl rfl)

theorem execStoreProfile_eventsKeep : Always s.eventsKeep (execStoreProfile s) := by
  refine s.effectPoint_eventsKeep _ _ ?_
  split
  · exact .grant (.redecodeHeld (.of_eq (.refl s) (by simp) (by simp)))
  · exact (State.eventsKeep.refl s).of_eq rfl rfl

theorem execLoadProfile_eventsKeep : Always s.eventsKeep (execLoadProfile s) := by
  refine s.effectPoint_eventsKeep _ _ ?_
  split
  · exact .grant (.of_eq (.beginLoad (.refl s) _) rfl rfl)
  · exact (State.eventsKeep.refl s).of_eq rfl rfl

theorem execResume_eventsKeep : Always s.eventsKeep (execResume s) :=
  s.effectPoint_eventsKeep _ _ (.grant (.of_eq (.refl s) (by simp) (by simp)))

theorem execDiscardHeld_eventsKeep (trigger : Option Byte) : Always s.eventsKeep (execDiscardHeld trigger s) := by
  unfold execDiscardHeld
  split
  · exact always_next.2 ((State.eventsKeep.refl s).of_eq (by simp) (by simp))
  · refine s.effectPoint_eventsKeep _ _ ?_
    split
    · exact (State.eventsKeep.refl s).of_eq rfl rfl
    · refine .grant (.endSlotHold (.of_eq (t := s.discardHeldOn _) ?_ rfl rfl))
      unfold State.discardHeldOn
      dsimp only
      split
      · simp
      · exact .logEvent (by simp) (by simp)

theorem exec_eventsKeep (c : Instr) : Always s.eventsKeep (exec c s) := by
  cases c with
  | powerUp t => exact execPowerUp_eventsKeep s t
  | supplyLoss ans => exact execSupplyLoss_eventsKeep s ans
  | pfailAssert ans => exact execPfailAssert_eventsKeep s ans
  | pfailRestart => exact execPfailRestart_eventsKeep s
  | hostReset => exact execHostReset_eventsKeep s
  | hostCycle sel rd wr a d => exact execHostCycle_eventsKeep s sel rd wr a d
  | hostCycleEnd => exact execHostCycleEnd_eventsKeep s
  | hostCycleWithdrawn => exact execHostCycleWithdrawn_eventsKeep s
  | memoryAccessComplete ans o => exact execMemoryAccessComplete_eventsKeep s ans o
  | writerTakeGroup => exact execWriterTakeGroup_eventsKeep s
  | writerPlace => exact execWriterPlace_eventsKeep s
  | applierTakeEntry => exact execApplierTakeEntry_eventsKeep s
  | takeRemove => exact execTakeRemove_eventsKeep s
  | putRegion index entry => exact execPutRegion_eventsKeep s index entry
  | storeProfile => exact execStoreProfile_eventsKeep s
  | loadProfile => exact execLoadProfile_eventsKeep s
  | resume => exact execResume_eventsKeep s
  | discardHeld trigger => exact execDiscardHeld_eventsKeep s trigger
  | mask high low => exact execMask_eventsKeep s high low
  | format => exact s.effectPoint_eventsKeep _ _ (.grant (.of_eq (.refl s) rfl rfl))
  | setDefault code =>
    cases code with
    | none => exact always_next.2 ((State.eventsKeep.refl s).of_eq (by simp) (by simp))
    | some b =>
      refine s.effectPoint_eventsKeep _ _ ?_
      cases defaultClassOfCode b <;> exact (State.eventsKeep.refl s).of_eq rfl rfl
  | hostResetRelease => exact always_next.2 (by simp)
  | transactionBegin =>
    change Always _ (execTransactionBegin s)
    unfold execTransactionBegin
    dsimp only
    split <;> exact always_next.2 (by simp)
  | transactionEnd =>
    change Always _ (execTransactionEnd s)
    unfold execTransactionEnd
    dsimp only
    split <;> exact always_next.2 (by simp)
  | badCommand code =>
    change Always _ (execBadCommand code s)
    unfold execBadCommand
    split
    · exact always_refused
    · split <;> exact always_next.2 (by simp)
  | reportReadComplete =>
    change Always _ (execReportReadComplete s)
    unfold execReportReadComplete
    dsimp only
    (repeat' split) <;> exact always_next.2 ((State.eventsKeep.refl s).of_eq (by simp) (by simp))
  | status | report | getMask => exact s.effectPoint_eventsKeep _ _ ((State.eventsKeep.refl s).of_eq rfl rfl)
  | peek | take => exact s.effectPoint_eventsKeep _ _ ((State.eventsKeep.refl s).of_eq (by simp) (by simp))
  | getRegion index | slot index =>
    cases index with
    | none => exact always_next.2 ((State.eventsKeep.refl s).of_eq (by simp) (by simp))
    | some b =>
      refine s.effectPoint_eventsKeep _ _ ?_
      cases index8 b <;> exact (State.eventsKeep.refl s).of_eq rfl rfl

end

theorem step_eventsKeep {s t : State} (hstep : step s = .next t) : s.eventsKeep t := by
  unfold step at hstep
  split at hstep
  · cases hstep
    exact (State.eventsKeep.refl s).of_eq (by simp) (by simp)
  · exact .trans ((State.eventsKeep.setPending _).2 (.refl s)) (exec_eventsKeep _ _ t hstep)

end Sys2Proof.Machine

open Sys2Proof.Machine

/-- Settles O4: only an arrival and the end of a TAKE change the queue, and ALERT# is evaluated after each of them and after
each change of the mask. -/
theorem eventBlockKeepsItsRules : Obligations.EventBlockKeepsItsRules :=
  ⟨fun _ _ hstep => (step_eventsKeep hstep).1, fun _ _ hstep => (step_eventsKeep hstep).2⟩
end

section
/-! SUPPORT. The statements that need one look at a definition: a step, reset, the journal's place, host cycles that are not
taken or end, and the arrival of an event (R20, R21, R24, R83, R133 to R138, R177, R178). -/

namespace Sys2Proof.Machine

/-! ## Reset -/

/-- R42, R63: the staging store at reset. -/
theorem State.reset_stagingEmpty : State.reset.stagingEmpty :=
  stagingEmpty_of_cleared rfl rfl rfl

/-- R18, R19: the region table at reset. -/
theorem State.reset_tableLegal : State.reset.tableLegal :=
  State.tableLegal_iff.2 ⟨RegionTable.legal_noEntries _, fun _ i => RegionTable.noEntries_get i⟩

/-! ## The journal's place (R83, R137) -/

/-- R137: H, the anchors, the profile block and the journal fill the memory. -/
theorem hiddenBase_add (t : Straps) : hiddenBase t + 128 + journalSize t = memorySize t := by
  have hm : 1 ≤ 2 ^ t.msz.toNat := Nat.one_le_two_pow
  have hj : 2 ^ t.jsz.toNat ≤ 8 := Nat.pow_le_pow_right (n := 2) (by decide) (Nat.le_of_lt_succ t.jsz.isLt)
  unfold hiddenBase memorySize journalSize
  generalize 2 ^ t.msz.toNat = m at hm
  generalize 2 ^ t.jsz.toNat = j at hj
  omega

/-! ## Arrivals (R177) -/

/-- R177: with 16 records an arrival counts on the OVERFLOW alone. -/
theorem EventBlock.arrive_full {e : EventBlock} (h : e.queue.length = 16) (r : EventReport) :
    e.arrive r = { e with queue := e.queue.map EventRecord.bump } := by
  simp [EventBlock.arrive, h]

/-- R177: the count of a bumped OVERFLOW stays at 255. -/
theorem EventRecord.bump_overflow {x : EventRecord} (h : x.report.kind = .overflow) :
    x.bump = { x with report := { x.report with count := BitVec.ofNat 8 (min (x.report.count.toNat + 1) 255) } } := by
  have hcount : (if x.report.count = 0xFF then 0xFF else x.report.count + 1)
      = BitVec.ofNat 8 (min (x.report.count.toNat + 1) 255) := by
    split <;> apply BitVec.eq_of_toNat_eq <;> bv_omega
  rw [EventRecord.bump, if_pos h, hcount]

end Sys2Proof.Machine

open Sys2Proof.Machine

/-- Settles O1: the definition of a step at a queue that is not empty. -/
theorem stepRunsFrontCommand : Obligations.StepRunsFrontCommand := by
  intro c rest s h
  rw [step, h]

/-- Settles O2: every field is as its reset value says; the store and the table are the empty ones, which are right. -/
theorem resetHoldsSpecValues : Obligations.ResetHoldsSpecValues := by
  have hslot : ∀ i : Fin 8, State.reset.slot i = Slot.cleared (State.reset.slot i).image := State.reset_stagingEmpty.slots
  refine ⟨rfl, rfl, ⟨hslot, rfl, rfl, State.reset_stagingEmpty.held, rfl, RegionTable.noEntries_get, ?rest⟩, rfl, rfl, rfl,
    rfl, rfl, rfl, State.reset_mem_wf, ?bounded, ?serials, rfl, ?hrsto, ?cause, State.reset_tableLegal, ?host, ?frozen,
    State.reset_stagingEmpty.right⟩
  case rest => exact ⟨rfl, rfl, rfl, rfl, rfl, rfl, rfl, rfl, rfl, rfl, rfl, rfl, rfl, rfl, rfl, rfl, rfl, rfl, rfl, rfl, rfl, rfl⟩
  case bounded => exact ⟨by decide, by decide, by decide⟩
  case serials => exact fun k r h => by cases h
  case hrsto => exact State.hrstoRight_iff.2 rfl
  case cause => exact ⟨nofun, fun _ _ => rfl⟩
  case host => exact ⟨by simp [State.reset, HostPort.idle, MemPort.cleared], by decide, by decide, by decide⟩
  case frozen => exact nofun

/-- Settles O17: the journal fills the memory from 128 bytes above H. -/
theorem journalLiesAtTopOfMemory : Obligations.JournalLiesAtTopOfMemory := by
  refine ⟨fun _ _ => rfl, fun s => ?_, fun s hm hj => ?_⟩
  · have htop := hiddenBase_add s.ctrl.straps
    have hlen := journalSize_ge s.ctrl.straps
    unfold State.journalAddr State.journalLength journalBase
    omega
  · have hM : memorySize s.ctrl.straps = 131072 := by rw [memorySize, hm]; rfl
    have hJ : journalSize s.ctrl.straps = 2048 := by rw [journalSize, hj]; rfl
    have htop := hiddenBase_add s.ctrl.straps
    unfold State.journalAddr journalBase
    omega

/-- Settles O22: each guard of the three commands read off. -/
theorem cyclesBeginAndEnd : Obligations.CyclesBeginAndEnd := by
  refine ⟨fun sel rd wr addr data s h => ?_, fun s hs hp => ?_, fun s hs hp => ?_, fun s hs hp hf => ?_⟩
  · change execHostCycle sel rd wr addr data s = _
    refine if_neg ?_
    rcases h with h | h | h | h | h <;> simp [State.takesCycles, h]
  · change execHostCycleEnd s = _
    simp [execHostCycleEnd, hs, hp]
  · change execHostCycleWithdrawn s = _
    simp [execHostCycleWithdrawn, hs, hp]
  · change execHostCycleWithdrawn s = _
    have hphase : s.host.phase = .waiting ∨ s.host.phase = .access := by simpa using hp
    rcases hphase with hp | hp <;> simp [execHostCycleWithdrawn, hs, hp, hf]

/-- Settles O47: the branches of an arrival, by the number of records. -/
theorem eventArrivesByTheTable : Obligations.EventArrivesByTheTable := by
  refine fun e r _ => ⟨fun h => ?_, fun hl ho => ?_, fun hl => ?_⟩
  · have : e.arrive r = e.push r := by
      rcases h with h | ⟨hl, ho⟩
      · exact if_pos (by omega)
      · simp [EventBlock.arrive, hl, ho]
    rw [this]
    exact e.push_queue r
  · have : e.arrive r = e.push (EventReport.overflow 1) := by simp [EventBlock.arrive, hl, ho]
    rw [this]
    exact e.push_queue _
  · rw [EventBlock.arrive_full hl]
    refine ⟨rfl, by simpa using hl, fun k x hx => ⟨fun hk => ?_, fun hk => ?_⟩⟩
    · simp [hx, EventRecord.bump, hk]
    · simp [hx, EventRecord.bump_overflow hk]
end

section
/-! SUPPORT. The management port: framing and bit times, the effect point of a command, and the reading and consuming
commands (R179, R180, R186 to R196). -/

namespace Sys2Proof.Machine

/-! ## Command codes (R188, 12.8) -/

/-- 12.8: every command is in the table. -/
theorem MgmtCommand.mem_all (c : MgmtCommand) : c ∈ MgmtCommand.all := by
  cases c <;> simp [MgmtCommand.all]

/-- 12.8: a code names at most its own command. -/
theorem code_of_commandOfByte {b : Byte} {c : MgmtCommand} (h : commandOfByte b = some c) : c.code = b := by
  simpa using List.find?_some h

/-- R188: a code names no command exactly where it is no command's code. -/
theorem commandOfByte_isNone_iff {b : Byte} : (commandOfByte b).isNone = true ↔ ∀ c : MgmtCommand, b ≠ c.code := by
  rw [Option.isNone_iff_eq_none, commandOfByte, List.find?_eq_none]
  simp only [MgmtCommand.mem_all, forall_const, beq_iff_eq, ne_eq]
  exact forall_congr' fun c => not_congr eq_comm

/-! ## The effect point (R189) -/

/-- R187: a transaction that can come to a command runs in a powered part outside FROZEN. -/
theorem State.awaits_powered {s : State} {c : MgmtCommand} {ps : List Byte} (h : s.awaits c ps = true) :
    s.supply = true ∧ s.ctrl.opState ≠ .frozen := by
  simp only [State.awaits, State.awaitsCommand, Bool.or_eq_true, Bool.and_eq_true, bne_iff_ne] at h
  rcases h with ⟨⟨hs, -⟩, hf⟩ | ⟨⟨⟨⟨hs, hf⟩, -⟩, -⟩, -⟩ <;> exact ⟨hs, hf⟩

/-- R187: a transaction that awaits its command byte is in COMMAND. -/
theorem State.awaitsCommand_iff {s : State} :
    s.awaitsCommand = true ↔ s.supply = true ∧ s.mgmt.phase = .command ∧ s.ctrl.opState ≠ .frozen := by
  simp [State.awaitsCommand, and_assoc]

/-- R187: a powered port outside FROZEN that has just begun a transaction awaits every command. -/
theorem State.awaits_of_begun {s : State} {c : MgmtCommand} {ps : List Byte} (h : s.awaits c ps = true)
    (c' : MgmtCommand) (ps' : List Byte) : (s.setMgmt (MgmtPort.quiet .command)).awaits c' ps' = true :=
  State.awaits_of_awaitsCommand (s := s.setMgmt (MgmtPort.quiet .command))
    (State.awaitsCommand_iff.2 ⟨(State.awaits_powered h).1, rfl, (State.awaits_powered h).2⟩) c' ps'

/-- The state that the command leaves does not depend on where the management port stood. -/
def portBlind (act : State → State) : Prop :=
  ∀ (s : State) (m : MgmtPort), act (s.setMgmt m) = act s

/-- R189: how far the transaction had come makes no difference at the effect point. -/
theorem State.effectPoint_of_begun {s : State} {c : MgmtCommand} {ps : List Byte} {act : State → State}
    (hb : portBlind act) (h : s.awaits c ps = true) :
    (s.setMgmt (MgmtPort.quiet .command)).effectPoint c ps act = s.effectPoint c ps act := by
  rw [State.effectPoint, State.effectPoint, if_pos h, if_pos (State.awaits_of_begun h c ps), hb]
  rfl

/-- R189, R190: without a transaction that can come to the command nothing happens. -/
theorem State.effectPoint_of_not_awaits {s : State} {c : MgmtCommand} {ps : List Byte} {act : State → State}
    (h : s.awaits c ps = false) : s.effectPoint c ps act = s := by
  rw [State.effectPoint, if_neg (by simp [h])]

/-- R194: an awaited command that is not accepted is answered NOT_NOW. -/
theorem State.effectPoint_refused {s : State} {c : MgmtCommand} {ps : List Byte} {act : State → State}
    (h : s.awaits c ps = true) (ha : c.accepted s.ctrl.opState s.ctrl.format.isSome = false) :
    s.effectPoint c ps act = s.reply c ps .notNow [] := by
  rw [State.effectPoint, if_pos h, if_neg (by simp [ha])]

/-! ## What each command does at its effect point -/

/-- An operation that looks at the management port no more than it changes it. -/
def carriesPort (f : State → State) : Prop :=
  ∀ (s : State) (m : MgmtPort), f (s.setMgmt m) = (f s).setMgmt m

/-- R189: a reply overwrites the port that the work before it carried along. -/
theorem carriesPort.reply {f : State → State} (h : carriesPort f) (c : MgmtCommand) (ps : List Byte) (st : Status)
    (bs : List Byte) : portBlind fun s => (f s).reply c ps st bs := by
  intro s m
  change (f (s.setMgmt m)).reply c ps st bs = _
  rw [h]
  rfl

theorem State.mergeOn_carriesPort : carriesPort State.mergeOn := by
  intro s m
  unfold State.mergeOn
  dsimp only
  rw [apply_ite (State.setMgmt · m)]
  rfl

theorem State.resumeReady_carriesPort : carriesPort State.resumeReady := by
  intro s m
  unfold State.resumeReady
  dsimp only
  have hclear : ∀ (p : Prop) [Decidable p] (u : State),
      (if p then (u.setMgmt m).beginClearing else u.setMgmt m) = (if p then u.beginClearing else u).setMgmt m :=
    fun p _ u => (apply_ite (State.setMgmt · m) p u.beginClearing u).symm
  exact congrArg (fun u : State => (u.setCtrl { u.ctrl with cause := .noCause }).enterState .running)
    (hclear _ s.resumeWriter.resumeApplier)

theorem State.resumeEngines_carriesPort : carriesPort State.resumeEngines := by
  intro s m
  rw [State.resumeEngines_eq, State.resumeEngines_eq, State.resumeReady_carriesPort, State.mergeOn_carriesPort,
    apply_ite (State.setMgmt · m)]
  rfl

theorem State.discardHeldOn_carriesPort (t : Fin 8) : carriesPort fun s => s.discardHeldOn t := by
  intro s m
  unfold State.discardHeldOn
  dsimp only
  rw [apply_ite (State.setMgmt · m)]
  rfl

theorem State.putEntry_carriesPort (i : Fin 8) (e : RawEntry) :
    carriesPort fun s => if s.putStatus i e = .ok then s.writeEntry i e.stored else s := by
  intro s m
  exact (apply_ite (State.setMgmt · m) (s.putStatus i e = .ok) (s.writeEntry i e.stored) s).symm

theorem State.replyHead_portBlind (c : MgmtCommand) : portBlind fun s => s.replyHead c := by
  intro s m
  change State.replyHead _ c = State.replyHead s c
  unfold State.replyHead
  change (match s.events.queue with | [] => _ | r :: _ => _) = _
  cases s.events.queue <;> rfl

/-- R189: every row of a management command is its effect point, with an act that overwrites the port. -/
theorem Instr.mgmt_exec {i : Instr} {c : MgmtCommand} {ps : List Byte} (h : i.mgmt = some (c, ps)) :
    ps.length = c.paramBytes ∧ ∃ act, portBlind act ∧ ∀ s, exec i s = .next (s.effectPoint c ps act) := by
  unfold Instr.mgmt at h
  split at h
  all_goals cases h
  all_goals refine ⟨rfl, _, ?_, fun _ => rfl⟩
  case h_3 | h_4 => exact State.replyHead_portBlind _
  case h_5 b | h_10 b =>
    cases hb : index8 b <;> exact fun _ _ => rfl
  case h_6 b e =>
    cases hb : index8 b with
    | none => exact fun _ _ => rfl
    | some i =>
      exact fun s m => (State.putEntry_carriesPort i (rawEntry e)).reply .putRegion (putParams b e)
        (s.putStatus i (rawEntry e)) [] s m
  case h_9 b =>
    cases hb : defaultClassOfCode b <;> exact fun _ _ => rfl
  case h_14 =>
    intro s m
    exact congrArg State.grant (State.resumeEngines_carriesPort.reply .resume [] .ok [] s m)
  case h_15 b =>
    cases hb : index8 b with
    | none => exact fun _ _ => rfl
    | some t =>
      intro s m
      exact congrArg (fun u : State => u.endSlotHold.grant)
        ((State.discardHeldOn_carriesPort t).reply .discardHeld [b] .ok [BitVec.ofNat 8 s.stage.held[t].length] s m)
  all_goals exact fun _ _ => rfl

/-- R187: every row whose parameter bytes are not complete takes the bytes that are. -/
theorem Instr.partway_exec {i : Instr} {c : MgmtCommand} {ps : List Byte} (h : i.partway = some (c, ps)) (s : State) :
    exec i s = .next (s.takeBytes c ps) := by
  unfold Instr.partway at h
  split at h
  all_goals cases h
  all_goals rfl

/-- R187: taking the bytes of a row leaves the port in PARAMETERS. -/
theorem State.takeBytes_of_awaits {s : State} {c : MgmtCommand} {ps : List Byte} (h : s.awaits c ps = true) :
    s.takeBytes c ps = s.setMgmt { MgmtPort.quiet .parameters with command := some c, params := ps, bytePos := ps.length + 1 } :=
  if_pos h

/-- R187, R190: without a transaction that can come to them nothing is taken. -/
theorem State.takeBytes_of_not_awaits {s : State} {c : MgmtCommand} {ps : List Byte} (h : s.awaits c ps = false) :
    s.takeBytes c ps = s := by
  rw [State.takeBytes, if_neg (by simp [h])]

/-- R194: a row at its effect point in a state that does not accept it only writes the port. -/
theorem exec_notAccepted {i : Instr} {c : MgmtCommand} {ps : List Byte} (hi : i.mgmt = some (c, ps)) {s : State}
    (hw : s.awaits c ps = true) (ha : c.accepted s.ctrl.opState s.ctrl.format.isSome = false) :
    exec i s = .next (s.reply c ps .notNow []) := by
  obtain ⟨-, act, -, he⟩ := Instr.mgmt_exec hi
  rw [he, State.effectPoint_refused hw ha]

/-- R194: so it answers, with FFh in each response byte. -/
theorem exec_notNow {i : Instr} {c : MgmtCommand} {ps : List Byte} (hi : i.mgmt = some (c, ps)) {s : State}
    (hw : s.awaitsCommand = true) (ha : c.accepted s.ctrl.opState s.ctrl.format.isSome = false) :
    ∃ m, exec i s = .next (s.setMgmt m) ∧ m.answers 0x10 (List.replicate c.responseBytes 0xFF) :=
  ⟨_, exec_notAccepted hi (State.awaits_of_awaitsCommand hw c ps) ha, s.reply_answers c ps .notNow []⟩

/-! ## Snapshots (R195, R196) -/

/-- R207: the two bytes of a number in sixteen bits. -/
theorem bytes16_ofNat (n : Nat) : bytes16 (BitVec.ofNat 16 n) = [BitVec.ofNat 8 (n / 256), BitVec.ofNat 8 n] := by
  have hhigh : highByte (BitVec.ofNat 16 n) = BitVec.ofNat 8 (n / 256) := by
    apply BitVec.eq_of_toNat_eq
    simp only [highByte, BitVec.extractLsb'_toNat, BitVec.toNat_ofNat, Nat.shiftRight_eq_div_pow]
    omega
  have hlow : lowByte (BitVec.ofNat 16 n) = BitVec.ofNat 8 n := by
    apply BitVec.eq_of_toNat_eq
    simp only [lowByte, BitVec.extractLsb'_toNat, BitVec.toNat_ofNat, Nat.shiftRight_eq_div_pow]
    omega
  rw [bytes16, hhigh, hlow]

/-! ## The head record (R179, R180, R191) -/

/-- 12.6: the COUNT of a record is its byte 6. -/
theorem EventRecord.bytes_count (r : EventRecord) : byteAt r.bytes 6 = r.report.count := by
  unfold EventRecord.bytes
  cases r.report.address <;> rfl

/-- R179, R180: what PEEK and TAKE answer. -/
theorem State.replyHead_mgmt (s : State) (c : MgmtCommand) (hc : c.responseBytes = 8) :
    ∃ m, s.replyHead c = s.setMgmt m ∧ m.command = some c
      ∧ (∀ r rest, s.events.queue = r :: rest → m.answers 0x00 r.bytes)
      ∧ (s.events.queue = [] → m.answers 0x01 (List.replicate 8 0xFF)) := by
  unfold State.replyHead
  cases hq : s.events.queue with
  | nil => exact ⟨_, rfl, rfl, nofun, fun _ => ⟨rfl, rfl, congrArg (List.replicate · 0xFF) hc⟩⟩
  | cons r rest =>
    refine ⟨_, rfl, rfl, fun r' rest' h => ?_, nofun⟩
    cases h
    exact ⟨rfl, rfl, rfl⟩

/-- R180: the head record goes, unless it is an OVERFLOW whose count grew. -/
theorem EventBlock.removeHead_cons {e : EventBlock} {r : EventRecord} {rest : List EventRecord} (hq : e.queue = r :: rest)
    {n : Byte} (h : r.report.kind ≠ .overflow ∨ r.report.count = n) : e.removeHead n = { e with queue := rest } := by
  rw [EventBlock.removeHead, hq]
  exact if_neg fun ⟨hk, hn⟩ => h.elim (absurd hk) (absurd · hn)

/-- R180: then its growth joins the tail as a new OVERFLOW. -/
theorem EventBlock.removeHead_grown {e : EventBlock} {r : EventRecord} {rest : List EventRecord} (hq : e.queue = r :: rest)
    {n : Byte} (hk : r.report.kind = .overflow) (hn : r.report.count ≠ n) :
    e.removeHead n = EventBlock.push { e with queue := rest } (EventReport.overflow (r.report.count - n)) := by
  rw [EventBlock.removeHead, hq]
  exact if_pos ⟨hk, hn⟩

/-- R180: what the last byte of a TAKE that was answered OK does. -/
theorem execTakeRemove_ok {s : State} (hout : s.shiftingOut .take = true) (hst : s.mgmt.status = 0x00) :
    execTakeRemove s
      = .next (s.lastByteOut.setEvents ((s.events.removeHead (byteAt s.mgmt.response 6)).evaluate s.table.mask)) := by
  rw [execTakeRemove, if_pos hout]
  exact if_pos hst

/-- R191: a transaction in RESULT of a powered part outside FROZEN shifts its result out. -/
theorem State.shiftingOut_of_result {s : State} (hs : s.supply = true) (ho : s.ctrl.opState ≠ .frozen)
    (hp : s.mgmt.phase = .result) {c : MgmtCommand} (hc : s.mgmt.command = some c) : s.shiftingOut c = true := by
  simp [State.shiftingOut, hs, ho, hp, hc]

/-! ## Bit times (R187) -/

/-- The port in RESULT, `k` whole bytes and `b` bits into its result. -/
def MgmtPort.shifted (m : MgmtPort) (k b : Nat) : MgmtPort :=
  { m with bytePos := m.params.length + 1 + k, bitPos := b }

/-- The port in TRAILER, `k` whole bytes and `b` bits after its parameters. -/
def MgmtPort.trailed (m : MgmtPort) (k b : Nat) : MgmtPort :=
  { m with phase := .trailer, bytePos := m.params.length + 1 + k, bitPos := b }

section
variable {m : MgmtPort} (hp : m.phase = .result)
include hp

theorem MgmtPort.bitTime_shifted_bit (k : Nat) {b : Nat} (hb : b < 7) :
    (m.shifted k b).bitTime = m.shifted k (b + 1) := by
  simp [MgmtPort.shifted, MgmtPort.bitTime, hp, hb]

theorem MgmtPort.bitTime_shifted_byte {k : Nat} (hk : k < m.response.length) :
    (m.shifted k 7).bitTime = m.shifted (k + 1) 0 := by
  simp [MgmtPort.shifted, MgmtPort.bitTime, MgmtPort.byteDone, MgmtPort.nextByte, MgmtPort.resultIndex, hp, hk]
  omega

theorem MgmtPort.bitTime_shifted_last (hc : m.command = some .take ∨ m.command = some .report) :
    (m.shifted m.response.length 7).bitTime = m.shifted m.response.length 7 := by
  simp [MgmtPort.shifted, MgmtPort.bitTime, MgmtPort.byteDone, MgmtPort.resultIndex, hp, hc]

theorem MgmtPort.bitTime_shifted_trailer (hc : m.command ≠ some .take) (hc' : m.command ≠ some .report) :
    (m.shifted m.response.length 7).bitTime = m.trailed (m.response.length + 1) 0 := by
  simp [MgmtPort.shifted, MgmtPort.trailed, MgmtPort.bitTime, MgmtPort.byteDone, MgmtPort.nextByte, MgmtPort.resultIndex,
    hp, hc, hc']
  omega

theorem MgmtPort.sdo_shifted (k b : Nat) :
    (m.shifted k b).sdo = .driven (((m.status :: m.response).getD k 0xFF).getMsbD b) := by
  simp [MgmtPort.shifted, MgmtPort.sdo, MgmtPort.byteOut, MgmtPort.resultIndex, hp]

end

theorem MgmtPort.bitTime_trailed (m : MgmtPort) (n : Nat) :
    (m.trailed (n / 8) (n % 8)).bitTime = m.trailed ((n + 1) / 8) ((n + 1) % 8) := by
  by_cases h : n % 8 < 7
  · have h1 : (n + 1) / 8 = n / 8 := by omega
    have h2 : (n + 1) % 8 = n % 8 + 1 := by omega
    simp [MgmtPort.trailed, MgmtPort.bitTime, h, h1, h2]
  · have h1 : (n + 1) / 8 = n / 8 + 1 := by omega
    have h2 : (n + 1) % 8 = 0 := by omega
    simp [MgmtPort.trailed, MgmtPort.bitTime, MgmtPort.byteDone, MgmtPort.nextByte, h, h1, h2]
    omega

theorem MgmtPort.sdo_trailed (m : MgmtPort) (k n : Nat) : (m.trailed k (n % 8)).sdo = .driven true := by
  have hb : n % 8 < 8 := Nat.mod_lt _ (by decide)
  simp only [MgmtPort.trailed, MgmtPort.sdo, MgmtPort.byteOut]
  generalize n % 8 = b at hb
  interval_cases b <;> rfl

/-- R187: at the start of a byte time before the result SDO is high. -/
theorem MgmtPort.sdo_parameters {m : MgmtPort} (hp : m.phase = .parameters) (hb : m.bitPos = 0) :
    m.sdo = .driven true := by
  simp only [MgmtPort.sdo, MgmtPort.byteOut, hp, hb]
  rfl

/-- R187: the port after `n` bit times from the effect point, within the result. -/
theorem MgmtPort.bitTimes_result {m : MgmtPort} (hp : m.phase = .result) (hb : m.bitPos = 0)
    (hk : m.bytePos = m.params.length + 1) {n : Nat} (hn : n < 8 * (m.response.length + 1)) :
    MgmtPort.bitTime^[n] m = m.shifted (n / 8) (n % 8) := by
  induction n with
  | zero =>
    change m = m.shifted 0 0
    cases m
    simp_all [MgmtPort.shifted]
  | succ n ih =>
    rw [Function.iterate_succ_apply', ih (by omega)]
    by_cases h : n % 8 < 7
    · rw [MgmtPort.bitTime_shifted_bit hp _ h]
      congr 1 <;> omega
    · rw [show n % 8 = 7 by omega, MgmtPort.bitTime_shifted_byte hp (by omega)]
      congr 1 <;> omega

/-- R187, R191: past it, where the last byte waits for a row of its own. -/
theorem MgmtPort.bitTimes_waiting {m : MgmtPort} (hp : m.phase = .result) (hb : m.bitPos = 0)
    (hk : m.bytePos = m.params.length + 1) (hc : m.command = some .take ∨ m.command = some .report) {n : Nat}
    (hn : 8 * (m.response.length + 1) ≤ n) : MgmtPort.bitTime^[n] m = m.shifted m.response.length 7 := by
  induction n, hn using Nat.le_induction with
  | base =>
    rw [show 8 * (m.response.length + 1) = 8 * m.response.length + 7 + 1 by omega, Function.iterate_succ_apply',
      MgmtPort.bitTimes_result hp hb hk (by omega), show (8 * m.response.length + 7) / 8 = m.response.length by omega,
      show (8 * m.response.length + 7) % 8 = 7 by omega, MgmtPort.bitTime_shifted_last hp hc]
  | succ n _ ih => rw [Function.iterate_succ_apply', ih, MgmtPort.bitTime_shifted_last hp hc]

/-- R187: past it, in the trailer. -/
theorem MgmtPort.bitTimes_trailer {m : MgmtPort} (hp : m.phase = .result) (hb : m.bitPos = 0)
    (hk : m.bytePos = m.params.length + 1) (hc : m.command ≠ some .take) (hc' : m.command ≠ some .report) (d : Nat) :
    MgmtPort.bitTime^[8 * (m.response.length + 1) + d] m
      = m.trailed ((8 * (m.response.length + 1) + d) / 8) ((8 * (m.response.length + 1) + d) % 8) := by
  induction d with
  | zero =>
    rw [Nat.add_zero, show 8 * (m.response.length + 1) = 8 * m.response.length + 7 + 1 by omega,
      Function.iterate_succ_apply', MgmtPort.bitTimes_result hp hb hk (by omega),
      show (8 * m.response.length + 7) / 8 = m.response.length by omega,
      show (8 * m.response.length + 7) % 8 = 7 by omega, MgmtPort.bitTime_shifted_trailer hp hc hc']
    congr 1 <;> omega
  | succ d ih => rw [← Nat.add_assoc, Function.iterate_succ_apply', ih, MgmtPort.bitTime_trailed]

end Sys2Proof.Machine

open Sys2Proof Sys2Proof.Machine

/-- Settles O48: the guards of SCS#, and one bit time after another along the result and the trailer. -/
theorem transactionsBeginAndEnd : Obligations.TransactionsBeginAndEnd := by
  refine ⟨fun s hs hl hp => ?_, fun s hp => ?_, fun s hs ho => ?_, fun s ho => ?_, fun s hq => ?_, fun m n hp hb hk =>
    ⟨fun hn => ?_, fun hn hc => ?_, fun hn hc hc' => ?_⟩⟩
  · exact ⟨_, if_pos (by simp [hs, hl, hp]), rfl, rfl, rfl, rfl⟩
  · exact if_neg (by simp [hp])
  · exact ⟨_, if_pos (by simp [hs, ho]), rfl, rfl, rfl, rfl⟩
  · exact if_neg (by simp [ho])
  · rw [step, hq, State.tick]
  · rw [MgmtPort.bitTimes_result hp hb hk hn]
    exact ⟨rfl, MgmtPort.sdo_shifted hp _ _⟩
  · exact MgmtPort.bitTimes_waiting hp hb hk hc hn
  · obtain ⟨d, rfl⟩ := Nat.exists_eq_add_of_le hn
    rw [MgmtPort.bitTimes_trailer hp hb hk hc hc']
    exact ⟨rfl, MgmtPort.sdo_trailed _ _ _⟩

/-- Settles O49: the fifteen codes are different, and BAD_COMMAND is made of any other alone. -/
theorem commandCodesDecodeOrAreBad : Obligations.CommandCodesDecodeOrAreBad := by
  refine ⟨⟨fun c => ?_, fun b c h => (code_of_commandOfByte h).symm, fun b => commandOfByte_isNone_iff⟩,
    fun code s hn hw => ?_, fun code c s h => ?_⟩
  · cases c <;> rfl
  · refine ⟨_, (if_neg (by simp [hn])).trans (if_pos hw), rfl, rfl, rfl⟩
  · exact if_pos (by simp [h])

/-- Settles O50: each row is the effect point of its command, or takes the bytes that have come. -/
theorem commandNotAcceptedChangesNothing : Obligations.CommandNotAcceptedChangesNothing := by
  refine ⟨fun i c ps s hi => ?_, fun i c ps s hi => ⟨fun hw => ?_, fun hw => ?_⟩, fun s hw => ⟨fun ho => ?_, fun ho => ?_,
    fun ho => ?_⟩⟩
  · obtain ⟨hlen, act, hblind, he⟩ := Instr.mgmt_exec hi
    refine ⟨fun hw ha => ?_, fun hw => ?_, fun hw => ?_⟩
    · exact ⟨_, exec_notAccepted hi hw ha, rfl, rfl, rfl, by rw [hlen], s.reply_answers c ps .notNow []⟩
    · rw [he, he, State.effectPoint_of_begun hblind hw]
    · rw [he, State.effectPoint_of_not_awaits hw]
  · exact ⟨_, (Instr.partway_exec hi s).trans (congrArg _ (State.takeBytes_of_awaits hw)), rfl, rfl, rfl, rfl, rfl,
      MgmtPort.sdo_parameters rfl rfl⟩
  · rw [Instr.partway_exec hi, State.takeBytes_of_not_awaits hw]
  · have ho' : s.ctrl.opState ≠ .running ∧ s.ctrl.opState ≠ .faulted := by simpa using ho
    refine ⟨fun b e => exec_notNow (c := .putRegion) rfl hw ?_, fun b => exec_notNow (c := .setDefault) rfl hw ?_,
      fun h l => exec_notNow (c := .mask) rfl hw ?_, fun b => exec_notNow (c := .discardHeld) rfl hw ?_⟩
    all_goals simpa [MgmtCommand.accepted] using ho'
  · exact exec_notNow (c := .loadProfile) rfl hw (by simpa [MgmtCommand.accepted] using ho)
  · refine exec_notNow (c := .format) rfl hw ?_
    rcases ho with ho | ho
    · simp [MgmtCommand.accepted, ho]
    · simp [MgmtCommand.accepted, Option.isSome_iff_ne_none.2 ho]

/-- Settles O51: both act in every state but FROZEN, and their act is a reply. -/
theorem statusAndReportAnswerSnapshots : Obligations.StatusAndReportAnswerSnapshots := by
  intro s hw
  have ho := (State.awaitsCommand_iff.1 hw).2.2
  refine ⟨⟨_, congrArg _ (State.effectPoint_accepted hw (by simpa [MgmtCommand.accepted] using ho)), rfl, rfl, ?_⟩,
    ⟨_, congrArg _ (State.effectPoint_accepted hw (by simpa [MgmtCommand.accepted] using ho)), rfl, rfl, rfl, rfl⟩⟩
  change s.statusBytes = _
  simp only [State.statusBytes, bytes16_ofNat]
  rfl

/-- Settles O53: PEEK and TAKE make the same reply from the head record. -/
theorem peekLeavesTheQueue : Obligations.PeekLeavesTheQueue := by
  intro s hw
  have ho := (State.awaitsCommand_iff.1 hw).2.2
  have hact : ∀ c ∈ [MgmtCommand.peek, .take], s.effectPoint c [] (fun s => s.replyHead c) = s.replyHead c := by
    intro c hc
    have hc' : c = .peek ∨ c = .take := by simpa using hc
    refine State.effectPoint_accepted hw ?_
    rcases hc' with rfl | rfl <;> simpa [MgmtCommand.accepted] using ho
  obtain ⟨m, hm, -, hsome, hnone⟩ := s.replyHead_mgmt .peek rfl
  obtain ⟨m', hm', -, hsome', hnone'⟩ := s.replyHead_mgmt .take rfl
  refine ⟨m, congrArg _ ((hact .peek (by simp)).trans hm), hsome, hnone, fun _ => rfl, m',
    congrArg _ ((hact .take (by simp)).trans hm'), ?_⟩
  cases hq : s.events.queue with
  | nil => exact ⟨(hnone' hq).2.1.trans (hnone hq).2.1.symm, (hnone' hq).2.2.trans (hnone hq).2.2.symm⟩
  | cons r rest =>
    exact ⟨(hsome' r rest hq).2.1.trans (hsome r rest hq).2.1.symm, (hsome' r rest hq).2.2.trans (hsome r rest hq).2.2.symm⟩

/-- Settles O54: TAKE replies; its last byte removes the head, and that of REPORT clears the unread flag. -/
theorem consumptionWaitsForLastByte : Obligations.ConsumptionWaitsForLastByte := by
  refine ⟨⟨fun s hw => ?_, fun s hs ho hp hc => ⟨fun hst => ?_, fun r rest hst hq => ⟨fun hr => ?_, fun before hk hb hne => ?_⟩⟩⟩,
    fun s hs ho hp hc => ⟨fun hst => ?_, fun hst => ?_⟩⟩
  · obtain ⟨m, hm, hrest⟩ := s.replyHead_mgmt .take rfl
    have ho := (State.awaitsCommand_iff.1 hw).2.2
    exact ⟨m, congrArg _ ((State.effectPoint_accepted hw (by simpa [MgmtCommand.accepted] using ho)).trans hm), hrest⟩
  all_goals have hout := State.shiftingOut_of_result hs ho hp hc
  · exact ⟨_, (if_pos hout).trans (if_neg (by rw [hst]; decide)), rfl⟩
  · have hkept := EventBlock.removeHead_cons hq (n := byteAt s.mgmt.response 6)
      (hr.imp_right fun hb => by rw [hb, EventRecord.bytes_count])
    exact ⟨_, (execTakeRemove_ok hout hst).trans (by rw [hkept]; rfl), rfl⟩
  · have hcount : byteAt s.mgmt.response 6 = before.report.count := by rw [hb, EventRecord.bytes_count]
    refine ⟨s.lastByteOut.mgmt, _, (execTakeRemove_ok hout hst).trans (congrArg _ ?_), rfl, rfl⟩
    rw [hcount, EventBlock.removeHead_grown hq hk (Ne.symm hne)]
    rfl
  · exact ⟨_, (if_pos hout).trans (if_neg (by simp [hst])), rfl⟩
  · exact ⟨_, (if_pos hout).trans (if_pos hst), rfl⟩

/-- Settles O56: both act in RUNNING and FAULTED; MASK evaluates ALERT# against the new mask. -/
theorem maskAndDefaultTakeEffect : Obligations.MaskAndDefaultTakeEffect := by
  intro s hw ho
  have hrun : s.ctrl.opState = .running ∨ s.ctrl.opState = .faulted := by simpa using ho
  have hdefault : ∀ b : Byte, exec (.setDefault (some b)) s = .next (match defaultClassOfCode b with
      | some d => (s.setTable { s.table with defaultClass := d }).reply .setDefault [b] .ok []
      | none => s.reply .setDefault [b] .badArg []) :=
    fun b => congrArg _ (State.effectPoint_accepted hw (by simpa [MgmtCommand.accepted] using hrun))
  refine ⟨fun high low => ⟨_, congrArg _ (State.effectPoint_accepted hw (by simpa [MgmtCommand.accepted] using hrun)), rfl, rfl, rfl⟩,
    ⟨_, hdefault 0, rfl, rfl, rfl⟩, ⟨_, hdefault 2, rfl, rfl, rfl⟩, fun code h0 h2 => ?_⟩
  have hcode : defaultClassOfCode code = none := by rw [defaultClassOfCode, if_neg h0, if_neg h2]
  refine ⟨_, (hdefault code).trans ?_, s.reply_answers .setDefault [code] .badArg []⟩
  rw [hcode]
  rfl
end

section
/-! SUPPORT. The six checks of PUT REGION in the raw conditions of R10 to R15, and the status they give. -/

namespace Sys2Proof.Machine

/-! ## Each check fails exactly so -/

/-- 12.4: the class codes without a class and of RECORD. -/
theorem regionClassOfCode_iff (c : BitVec 2) :
    (regionClassOfCode c = none ↔ c = 3) ∧ (regionClassOfCode c = some .record ↔ c = 1) := by
  revert c
  decide

/-- Check 1 (R11) fails for a class code without a class and for a range that is no range of ordinary memory. -/
theorem RawEntry.check1_fails {e : RawEntry} {base : Nat} :
    e.check1 base = false ↔ e.cls = 3 ∨ 2 ^ 19 ≤ e.base ∨ 2 ^ 19 ≤ e.limit ∨ e.limit < e.base ∨ base ≤ e.limit := by
  have hclass : (∃ c, regionClassOfCode e.cls = some c) ↔ ¬e.cls = 3 := by
    rw [← (regionClassOfCode_iff e.cls).1, ← Option.isSome_iff_exists, Option.isSome_iff_ne_none]
  rw [← Bool.not_eq_true, RawEntry.check1_iff, hclass]
  simp only [not_and_or, not_not, not_lt, not_le]
  rfl

/-- Check 2 (R11) fails for a record length or a commit offset that does not fit. -/
theorem RawEntry.check2_fails {e : RawEntry} :
    e.check2 = false ↔ e.rsize < 2 ∨ 128 < e.rsize ∨ (e.limit - e.base + 1) % e.rsize ≠ 0 ∨ e.rsize ≤ e.commit := by
  rw [← Bool.not_eq_true, RawEntry.check2_iff]
  simp only [not_and_or, not_lt, not_le, ne_eq]

/-- Check 3 (R12) fails for an entry that follows something else than another valid RECORD entry that follows none, or that
is followed itself. -/
theorem RawEntry.check3_fails {e : RawEntry} {entries : Vector RegionEntry 8} {i : Fin 8} :
    e.check3 entries i = false ↔ e.follows ≠ 15 ∧ (8 ≤ e.follows.toNat ∨ e.follows.toNat = i.val
      ∨ (∃ k : Fin 8, k ≠ i ∧ entries[k].valid = true ∧ entries[k].follows = some i)
      ∨ ∃ t : Fin 8, e.follows.toNat = t.val ∧ (entries[t].valid = false ∨ entries[t].cls ≠ .record
          ∨ entries[t].follows ≠ none)) := by
  have h15 : e.follows.toNat = 15 ↔ e.follows = 15 := by bv_omega
  have hn15 : e.follows.toNat ≠ 15 → e.follows ≠ 15 := fun h h' => h (h15.2 h')
  rw [← RegionTable.followed_iff]
  unfold RawEntry.check3
  split_ifs with h h8
  · simp [h15.1 h]
  · have hself : e.follows.toNat = i.val ↔ (⟨e.follows.toNat, h8⟩ : Fin 8) = i := by rw [Fin.ext_iff]
    have hother : (∃ t : Fin 8, e.follows.toNat = t.val ∧ (entries[t].valid = false ∨ entries[t].cls ≠ .record
          ∨ entries[t].follows ≠ none))
        ↔ (entries[(⟨e.follows.toNat, h8⟩ : Fin 8)].valid = false
          ∨ entries[(⟨e.follows.toNat, h8⟩ : Fin 8)].cls ≠ .record
          ∨ entries[(⟨e.follows.toNat, h8⟩ : Fin 8)].follows ≠ none) := by
      constructor
      · rintro ⟨t, ht, hbad⟩
        obtain rfl : (⟨e.follows.toNat, h8⟩ : Fin 8) = t := Fin.ext ht
        exact hbad
      · exact fun hbad => ⟨_, rfl, hbad⟩
    rw [hself, hother, and_iff_right (hn15 h), or_iff_right (Nat.not_le_of_lt h8)]
    have hcases : ∀ t : Fin 8, (t != i && entries[t].valid && entries[t].cls == .record && entries[t].follows.isNone
          && !RegionTable.followed entries i) = false
        ↔ t = i ∨ RegionTable.followed entries i = true ∨ entries[t].valid = false ∨ entries[t].cls ≠ .record
          ∨ entries[t].follows ≠ none := by
      intro t
      generalize entries[t] = x
      cases x.valid <;> cases RegionTable.followed entries i <;> simp [or_iff_not_imp_left, Option.isSome_iff_ne_none]
    exact hcases _
  · simpa [Nat.le_of_not_lt h8] using hn15 h

/-- Check 4 (R13) fails for a range that shares an address with a valid entry at another index. -/
theorem RawEntry.check4_fails {e : RawEntry} {entries : Vector RegionEntry 8} {base : Nat} {i : Fin 8}
    (hn : ∀ k : Fin 8, entries[k].normal base) (hle : e.base ≤ e.limit) :
    e.check4 entries i = false
      ↔ ∃ (k : Fin 8) (a : Nat), k ≠ i ∧ entries[k].covers a = true ∧ e.base ≤ a ∧ a ≤ e.limit := by
  rw [← Bool.not_eq_true, RawEntry.check4_iff]
  push Not
  constructor
  · rintro ⟨k, hk, hv, hb, hl⟩
    have hrange := (hn k).range hv
    refine ⟨k, max e.base entries[k].base.toNat, hk, RegionEntry.covers_iff.2 ⟨hv, ?_, ?_⟩, ?_, ?_⟩ <;> omega
  · rintro ⟨k, a, hk, hc, hb, hl⟩
    obtain ⟨hv, hkb, hkl⟩ := RegionEntry.covers_iff.1 hc
    exact ⟨k, hk, hv, by omega, by omega⟩

/-- Check 5 (R14). -/
theorem Staging.busy_iff {g : Staging} {i : Fin 8} :
    g.busy i = true ↔ ∃ k : Fin 8, (g.slots[k].state ≠ .free ∧ g.slots[k].region = .entry i)
      ∨ (g.slots[k].state = .held ∧ g.slots[k].waitsOn = some i) := by
  simp [Staging.busy, Slot.live]

/-- Check 6 (R15), for an entry that passes the checks before it. -/
theorem RawEntry.disturbs_iff {e : RawEntry} {entries : Vector RegionEntry 8} {base : Nat} {i : Fin 8}
    (h1 : e.valid = true → e.check1 base = true) :
    e.disturbs entries i = true ↔ RegionTable.followed entries i = true ∧ (e.valid = false ∨ e.cls ≠ 1
      ∨ e.base ≠ entries[i].base.toNat ∨ e.limit ≠ entries[i].limit.toNat ∨ e.rsize ≠ entries[i].rsize
      ∨ e.commit ≠ entries[i].commit) := by
  unfold RawEntry.disturbs
  dsimp only
  rw [Bool.and_eq_true]
  refine and_congr_right fun _ => ?_
  cases hv : e.valid with
  | false => simp
  | true =>
    obtain ⟨-, hcls, hb, hl⟩ := RawEntry.stored_range hv (h1 hv)
    by_cases hr : e.cls = 1
    · have hrec := (regionClassOfCode_iff e.cls).2.2 hr
      have hx := RawEntry.stored_record hv hrec
      have hb' : e.stored.base ≠ entries[i].base ↔ e.base ≠ entries[i].base.toNat := by
        rw [← hb, ne_eq, ne_eq, BitVec.toNat_inj]
      have hl' : e.stored.limit ≠ entries[i].limit ↔ e.limit ≠ entries[i].limit.toNat := by
        rw [← hl, ne_eq, ne_eq, BitVec.toNat_inj]
      simp only [Bool.or_eq_true, bne_iff_ne, hb', hl']
      rw [hx]
      simp [hr, or_assoc]
    · have hne : e.stored.cls ≠ .record := fun h => hr ((regionClassOfCode_iff e.cls).2.1 (h ▸ hcls))
      exact iff_of_true (by simp [hne]) (.inr (.inl hr))

/-! ## The status by the first check that fails (R10) -/

/-- R10: checks 2 and 3 are made for RECORD alone. -/
theorem RawEntry.firstFailing_eq (e : RawEntry) (entries : Vector RegionEntry 8) (base : Nat) (i : Fin 8) :
    e.firstFailing entries base i
      = if e.check1 base = false then some 1
        else if e.cls = 1 ∧ e.check2 = false then some 2
        else if e.cls = 1 ∧ e.check3 entries i = false then some 3
        else if e.check4 entries i = false then some 4 else none := by
  simp [RawEntry.firstFailing, (regionClassOfCode_iff e.cls).2]

/-- R10: a failing check 1, 2 or 3 gives BAD_ARG. -/
theorem State.putStatus_badArg {s : State} {i : Fin 8} {e : RawEntry} (hv : e.valid = true)
    (h : e.check1 s.base = false ∨ (e.cls = 1 ∧ e.check2 = false) ∨ (e.cls = 1 ∧ e.check3 s.table.entries i = false)) :
    s.putStatus i e = .badArg := by
  have hn : ∃ n, e.firstFailing s.table.entries s.base i = some n ∧ n ≠ 4 := by
    rw [RawEntry.firstFailing_eq]
    split_ifs with h1 h2 h3
    · exact ⟨1, rfl, by decide⟩
    · exact ⟨2, rfl, by decide⟩
    · exact ⟨3, rfl, by decide⟩
    all_goals exact (h.elim h1 (Or.elim · h2 h3)).elim
  obtain ⟨n, hn, h4⟩ := hn
  simp [State.putStatus, hv, hn, checkStatus, h4]

/-- R10: then a failing check 4 gives OVERLAP. -/
theorem State.putStatus_overlap {s : State} {i : Fin 8} {e : RawEntry} (hv : e.valid = true)
    (h : ¬(e.check1 s.base = false ∨ (e.cls = 1 ∧ e.check2 = false) ∨ (e.cls = 1 ∧ e.check3 s.table.entries i = false)))
    (h4 : e.check4 s.table.entries i = false) : s.putStatus i e = .overlap := by
  simp only [not_or] at h
  obtain ⟨h1, h2, h3⟩ := h
  have hn : e.firstFailing s.table.entries s.base i = some 4 := by
    rw [RawEntry.firstFailing_eq, if_neg h1, if_neg h2, if_neg h3, if_pos h4]
  simp [State.putStatus, hv, hn, checkStatus]

/-- R10: with checks 1 to 4 passed, checks 5 and 6 decide. -/
theorem State.putStatus_late {s : State} {i : Fin 8} {e : RawEntry}
    (h : e.valid = true → ¬(e.check1 s.base = false ∨ (e.cls = 1 ∧ e.check2 = false)
      ∨ (e.cls = 1 ∧ e.check3 s.table.entries i = false)) ∧ e.check4 s.table.entries i = true) :
    s.putStatus i e = if s.stage.busy i = true then .busyLive
      else if e.disturbs s.table.entries i = true then .triggerInUse else .ok := by
  have hn : (if e.valid then e.firstFailing s.table.entries s.base i else none) = none := by
    cases hv : e.valid with
    | false => rfl
    | true =>
      obtain ⟨h, h4⟩ := h hv
      simp only [not_or] at h
      obtain ⟨h1, h2, h3⟩ := h
      rw [if_pos rfl, RawEntry.firstFailing_eq, if_neg h1, if_neg h2, if_neg h3, if_neg (by simp [h4])]
  simp [State.putStatus, hn]

/-! ## The command (R10, R16) -/

section
variable {s : State} (hw : s.awaitsCommand = true) (ho : s.ctrl.opState ∈ [OpState.running, .faulted])
include hw ho

/-- R10: an index above 7 is refused. -/
theorem execPutRegion_outOfRange {b : Byte} (eb : EntryBytes) (hb : 8 ≤ b.toNat) :
    exec (.putRegion (some b) (.whole eb)) s = .next (s.reply .putRegion (putParams b eb) .badArg []) := by
  change Host.Outcome.next (s.effectPoint _ _ _) = _
  rw [State.effectPoint_accepted hw (by simpa [MgmtCommand.accepted] using ho), index8_of_le hb]

/-- R10, R16: an entry is judged, and written when the status is OK. -/
theorem execPutRegion_inRange {b : Byte} {i : Fin 8} (eb : EntryBytes) (hb : b.toNat = i.val) :
    exec (.putRegion (some b) (.whole eb)) s
      = .next ((if s.putStatus i (rawEntry eb) = .ok then s.writeEntry i (rawEntry eb).stored else s).reply .putRegion
          (putParams b eb) (s.putStatus i (rawEntry eb)) []) := by
  change Host.Outcome.next (s.effectPoint _ _ _) = _
  rw [State.effectPoint_accepted hw (by simpa [MgmtCommand.accepted] using ho), index8_of_eq hb]

/-- R10: any other status leaves the table alone. -/
theorem execPutRegion_refused {b : Byte} {i : Fin 8} (eb : EntryBytes) (hb : b.toNat = i.val) {st : Status}
    (hst : s.putStatus i (rawEntry eb) = st) (hne : st ≠ .ok) :
    ∃ m, exec (.putRegion (some b) (.whole eb)) s = .next (s.setMgmt m) ∧ m.answers st.code [] := by
  refine ⟨(s.reply .putRegion (putParams b eb) st []).mgmt, (execPutRegion_inRange hw ho eb hb).trans ?run, rfl, rfl,
    ?response⟩
  case run =>
    rw [hst, if_neg hne]
    rfl
  case response => exact if_neg hne

end

end Sys2Proof.Machine

open Sys2Proof Sys2Proof.Machine

/-- Settles O55: the six raw conditions are the checks that fail, and the checks are made in order. -/
theorem putRegionChecksInOrder : Obligations.PutRegionChecksInOrder := by
  refine ⟨fun b eb s hw ho hb => ⟨_, execPutRegion_outOfRange hw ho eb hb, s.reply_answers _ _ .badArg []⟩, ?_⟩
  intro b i eb s hw ho hlegal hb e fail1 fail2 followed fail3 fail4 fail5 fail6 early
  have hnormal := hlegal.1
  have h1 : e.check1 s.base = false ↔ fail1 := RawEntry.check1_fails
  have h2 : (e.cls = 1 ∧ e.check2 = false) ↔ fail2 := and_congr_right fun _ => RawEntry.check2_fails
  have h3 : (e.cls = 1 ∧ e.check3 s.table.entries i = false) ↔ fail3 := and_congr_right fun _ => RawEntry.check3_fails
  have h4 : ¬fail1 → (e.check4 s.table.entries i = false ↔ fail4) := fun h =>
    RawEntry.check4_fails hnormal (Nat.le_of_not_lt fun hlt => h (.inr (.inr (.inr (.inl hlt)))))
  have h5 : s.stage.busy i = true ↔ fail5 := Staging.busy_iff
  have h6 : ¬(e.valid = true ∧ early) → (e.disturbs s.table.entries i = true ↔ fail6) := fun h => by
    refine (RawEntry.disturbs_iff (base := s.base) fun hv => ?_).trans (and_congr_left' RegionTable.followed_iff)
    rw [← Bool.not_eq_false, h1]
    exact fun h' => h ⟨hv, .inl h'⟩
  have hlate : ¬(e.valid = true ∧ early) → s.putStatus i e = if s.stage.busy i = true then .busyLive
      else if e.disturbs s.table.entries i = true then .triggerInUse else .ok := fun h => by
    refine State.putStatus_late fun hv => ?_
    rw [h1, h2, h3, ← Bool.not_eq_false, h4 fun h' => h ⟨hv, .inl h'⟩]
    exact ⟨fun h' => h ⟨hv, h'.imp_right (Or.imp_right .inl)⟩, fun h' => h ⟨hv, .inr (.inr (.inr h'))⟩⟩
  refine ⟨fun ⟨hv, hf⟩ => ?_, fun ⟨hv, hn, hf⟩ => ?_, fun ⟨hn, hf⟩ => ?_, fun ⟨hn, hn5, hf⟩ => ?_, fun ⟨hn, hn5, hn6⟩ => ?_⟩
  · exact execPutRegion_refused hw ho eb hb (State.putStatus_badArg hv (by rwa [h1, h2, h3])) nofun
  · exact execPutRegion_refused hw ho eb hb
      (State.putStatus_overlap hv (by rwa [h1, h2, h3]) ((h4 fun h => hn (.inl h)).2 hf)) nofun
  · exact execPutRegion_refused hw ho eb hb ((hlate hn).trans (if_pos (h5.2 hf))) nofun
  · exact execPutRegion_refused hw ho eb hb
      ((hlate hn).trans ((if_neg (h5.not.2 hn5)).trans (if_pos ((h6 hn).2 hf)))) nofun
  · have hst := (hlate hn).trans ((if_neg (h5.not.2 hn5)).trans (if_neg ((h6 hn).not.2 hn6)))
    refine ⟨_, (execPutRegion_inRange hw ho eb hb).trans ?_, s.reply_answers .putRegion (putParams b eb) .ok []⟩
    rw [hst, if_pos rfl]
    rfl
end

section
/-! SUPPORT. How far each operation moves the operating state and the FAULTED cause (R134, R136). -/

namespace Sys2Proof.Machine

/-! ## The changes of operating state -/

/-- From `s` the part has come to one of the states `os`: with a cause in FAULTED, and with the cause of `s` elsewhere. -/
def State.comesTo (s : State) (os : List OpState) (t : State) : Prop :=
  t.ctrl.opState ∈ os ∧ if t.ctrl.opState = .faulted then t.ctrl.cause ≠ .noCause else t.ctrl.cause = s.ctrl.cause

/-- From `s` to `t` the operating state and the cause are left. -/
def State.keepsState (s t : State) : Prop :=
  t.ctrl.opState = s.ctrl.opState ∧ t.ctrl.cause = s.ctrl.cause

theorem State.keepsState_of_ctrl {s t : State} (h : t.ctrl = s.ctrl) : s.keepsState t :=
  ⟨congrArg _ h, congrArg _ h⟩

theorem State.comesTo_same {s t : State} {os : List OpState} (h : s.keepsState t) (ho : s.ctrl.opState ∈ os)
    (hf : s.ctrl.opState ≠ .faulted) : s.comesTo os t := by
  rw [State.comesTo, h.1, if_neg hf]
  exact ⟨ho, h.2⟩

theorem State.comesTo.of_ctrl {s t u : State} {os : List OpState} (h : s.comesTo os t) (hc : u.ctrl = t.ctrl) :
    s.comesTo os u := by
  rwa [State.comesTo, hc]

theorem State.comesTo.mono {s t : State} {os os' : List OpState} (h : s.comesTo os t) (hsub : os ⊆ os') :
    s.comesTo os' t :=
  ⟨hsub h.1, h.2⟩

/-! ## The engines (R116, R123, R124) -/

section
variable (s : State)

theorem State.enterFaulted_cause (c : FaultCause) (e : Requester) (o : Order) :
    (s.enterFaulted c e o).ctrl.cause = c := by
  simp [State.enterFaulted]

theorem State.enterFaulted_comesTo {c : FaultCause} (hc : c ≠ .noCause) (e : Requester) (o : Order) :
    s.comesTo [.faulted] (s.enterFaulted c e o) := by
  rw [State.comesTo, State.enterFaulted_opState, if_pos rfl, State.enterFaulted_cause]
  exact ⟨List.mem_singleton_self _, hc⟩

/-- From `s` to `t` the engines leave the operating state, or fault in RUNNING. -/
def State.engineChange (s t : State) : Prop :=
  s.keepsState t ∨ s.ctrl.opState = .running ∧ s.comesTo [.faulted] t

variable {s}

theorem State.engineChange_of_ctrl {t : State} (h : t.ctrl = s.ctrl) : s.engineChange t :=
  .inl (State.keepsState_of_ctrl h)

theorem State.journalFault_engineChange (a : Nat) (o : Order) : s.engineChange (s.journalFault a o) := by
  unfold State.journalFault
  split
  · split
    · exact State.engineChange_of_ctrl rfl
    · exact .inr ⟨‹_›, State.enterFaulted_comesTo (State.logEvent s _) (by simp) _ _⟩
  · exact State.engineChange_of_ctrl rfl

theorem State.writerAdvance_engineChange (r : StepResult) (o : Order) : s.engineChange (s.writerAdvance r o) := by
  unfold State.writerAdvance
  split
  · exact State.journalFault_engineChange _ _
  all_goals exact State.engineChange_of_ctrl (by simp)

theorem State.writerTake_engineChange (b : Byte) (o : Order) : s.engineChange (s.writerTake b o) := by
  have step : ∀ r, s.engineChange (if s.writer.resuming then s.writerResume r o else s.writerAdvance r o) := by
    intro r
    split
    · unfold State.writerResume
      cases r with
      | done => exact State.writerAdvance_engineChange .done o
      | more | unequal => exact State.engineChange_of_ctrl rfl
    · exact State.writerAdvance_engineChange r o
  unfold State.writerTake
  split
  · split <;> exact State.engineChange_of_ctrl (by simp)
  · exact State.engineChange_of_ctrl (by simp)
  · exact State.engineChange_of_ctrl rfl
  all_goals exact step _

theorem State.applyFault_engineChange (a : Nat) (o : Order) : s.engineChange (s.applyFault a o) := by
  unfold State.applyFault
  split
  · split
    · exact State.engineChange_of_ctrl rfl
    · exact .inr ⟨‹_›, State.enterFaulted_comesTo (State.logEvent s _) (by simp) _ _⟩
  · exact State.engineChange_of_ctrl rfl

theorem State.applierAdvance_engineChange (r : StepResult) (o : Order) : s.engineChange (s.applierAdvance r o) := by
  unfold State.applierAdvance
  split
  · exact State.applyFault_engineChange _ _
  · exact State.engineChange_of_ctrl rfl
  · split <;> exact State.engineChange_of_ctrl rfl
  all_goals exact State.engineChange_of_ctrl (by simp)

theorem State.applierTake_engineChange (b : Byte) (o : Order) : s.engineChange (s.applierTake b o) := by
  unfold State.applierTake
  dsimp only
  split
  · unfold State.applierResume
    cases stepResult s.applierProgram s.applier.idx b with
    | done => exact State.applierAdvance_engineChange .done o
    | more | unequal => exact State.engineChange_of_ctrl rfl
  · exact State.applierAdvance_engineChange _ o

/-! ## Recovery (R139 to R149) -/

/-- R134: the states that RECOVERING can lead to at a completed access, with itself. -/
def OpState.afterRecovering : List OpState :=
  [.recovering, .initload, .locked, .faulted]

theorem State.beginLoad_comesTo (t : State) (h : t.ctrl.cause = s.ctrl.cause) : s.comesTo [.initload] (t.beginLoad .initload) :=
  ⟨List.mem_singleton_self _, h⟩

theorem State.scanEnd_comesTo : s.comesTo OpState.afterRecovering s.scanEnd :=
  (State.beginLoad_comesTo _ rfl).mono (by simp [OpState.afterRecovering])

theorem State.recoveryFault_comesTo : s.comesTo OpState.afterRecovering s.recoveryFault := by
  refine State.comesTo.of_ctrl (t := State.enterState _ .faulted) ⟨?_, ?_⟩ (State.endStateHold_frame _).2.2.2.1
  · simp [OpState.afterRecovering]
  · exact nofun

theorem State.enterLocked_comesTo : s.comesTo OpState.afterRecovering s.enterLocked := by
  refine State.comesTo.of_ctrl (t := State.enterState _ .locked) ⟨?_, ?_⟩ (State.endStateHold_frame _).2.2.2.1
  · simp [OpState.afterRecovering]
  · rfl

variable (ho : s.ctrl.opState = .recovering)
include ho

theorem State.comesTo_recovering {t : State} (h : s.keepsState t) : s.comesTo OpState.afterRecovering t :=
  State.comesTo_same h (by rw [ho]; simp [OpState.afterRecovering]) (by rw [ho]; nofun)

theorem State.examine_comesTo : s.comesTo OpState.afterRecovering s.examine := by
  unfold State.examine
  dsimp only
  split
  · exact State.scanEnd_comesTo
  · exact State.comesTo_recovering ho ⟨rfl, rfl⟩

theorem State.examine_setRecovery_comesTo (r : Recovery) (j : Journal) :
    s.comesTo OpState.afterRecovering ((s.setJournal j).setRecovery r).examine :=
  State.examine_comesTo (s := (s.setJournal j).setRecovery r) ho

omit ho in
theorem State.scanUnfit_comesTo (bs : List Byte) : s.comesTo OpState.afterRecovering (s.scanUnfit bs) := by
  unfold State.scanUnfit
  dsimp only
  split
  · exact State.scanEnd_comesTo (s := s.setRecovery { s.ctrl.recovery with damaged := true })
  · exact State.scanEnd_comesTo

theorem State.scanMark_comesTo (b : Byte) : s.comesTo OpState.afterRecovering (s.scanMark b) := by
  unfold State.scanMark
  dsimp only
  split
  · split
    · exact State.examine_setRecovery_comesTo ho _ s.journal
    · exact State.scanEnd_comesTo
  · split
    · split
      · exact State.comesTo_recovering ho ⟨rfl, rfl⟩
      · exact State.scanEnd_comesTo
    · exact State.scanEnd_comesTo

theorem State.scanEntry_comesTo (bs : List Byte) : s.comesTo OpState.afterRecovering (s.scanEntry bs) := by
  unfold State.scanEntry
  dsimp only
  split
  · split
    · exact State.comesTo_recovering ho ⟨rfl, rfl⟩
    · split
      · exact State.examine_setRecovery_comesTo ho _ s.journal
      · exact State.scanEnd_comesTo
  · exact State.scanUnfit_comesTo bs

theorem State.scanTake_comesTo (b : Byte) : s.comesTo OpState.afterRecovering (s.scanTake b) := by
  unfold State.scanTake
  dsimp only
  split_ifs
  · exact State.scanMark_comesTo ho b
  · exact State.comesTo_recovering ho ⟨rfl, rfl⟩
  · unfold State.scanHeader
    dsimp only
    split
    · exact State.comesTo_recovering ho ⟨rfl, rfl⟩
    · exact State.scanUnfit_comesTo _
  · exact State.comesTo_recovering ho ⟨rfl, rfl⟩
  · exact State.scanEntry_comesTo ho _

theorem State.anchorsTake_comesTo (b : Byte) : s.comesTo OpState.afterRecovering (s.anchorsTake b) := by
  unfold State.anchorsTake
  dsimp only
  split
  · exact State.comesTo_recovering ho ⟨rfl, rfl⟩
  · unfold State.anchorsRead
    dsimp only
    split
    · exact State.examine_setRecovery_comesTo ho _ _
    · split
      · exact State.comesTo_recovering ho ⟨rfl, rfl⟩
      · exact State.enterLocked_comesTo

theorem State.replayAdvance_comesTo (x : StepResult) : s.comesTo OpState.afterRecovering (s.replayAdvance x) := by
  unfold State.replayAdvance
  dsimp only
  split
  · unfold State.replayFault
    dsimp only
    split
    · exact State.comesTo_recovering ho ⟨rfl, rfl⟩
    · exact State.recoveryFault_comesTo (s := s.logApplyFault _ _ _ _)
  · exact State.comesTo_recovering ho ⟨rfl, rfl⟩
  · split <;> exact State.comesTo_recovering ho ⟨rfl, rfl⟩
  · exact State.comesTo_recovering ho ⟨rfl, rfl⟩
  · exact State.examine_setRecovery_comesTo ho _ _
  · exact State.comesTo_recovering ho ⟨rfl, rfl⟩

omit ho in
theorem State.formatTake_cases : s.keepsState s.formatTake ∨ s.comesTo [.initload] s.formatTake := by
  unfold State.formatTake
  split
  · split
    · exact .inl ⟨rfl, rfl⟩
    · split
      · exact .inr (State.beginLoad_comesTo _ rfl)
      · exact .inr (State.beginLoad_comesTo _ rfl)
  · exact .inl ⟨rfl, rfl⟩

theorem State.recoveryTake_comesTo (b : Byte) : s.comesTo OpState.afterRecovering (s.recoveryTake b) := by
  unfold State.recoveryTake
  split
  · exact State.comesTo_recovering ho ⟨rfl, rfl⟩
  · exact State.anchorsTake_comesTo ho b
  · exact State.scanTake_comesTo ho b
  iterate 3 exact State.replayAdvance_comesTo ho _
  · rcases State.formatTake_cases with h | h
    · exact State.comesTo_recovering ho h
    · exact h.mono (by simp [OpState.afterRecovering])

end

/-! ## The completed access (R36) -/

/-- R134: the changes that a completed access can make. -/
def OpState.accessChanges : List (OpState × OpState) :=
  [(.recovering, .initload), (.recovering, .locked), (.recovering, .faulted), (.initload, .running),
    (.reloading, .running), (.running, .faulted), (.locked, .initload)]

/-- From `s` to `t` nothing of this changes, or as a completed access can change it, the cause with it. -/
def State.accessChange (s t : State) : Prop :=
  s.keepsState t
    ∨ (s.ctrl.opState, t.ctrl.opState) ∈ OpState.accessChanges ∧ s.comesTo [t.ctrl.opState] t

theorem State.comesTo.accessChange {s t : State} {os : List OpState} (h : s.comesTo os t) (hf : s.ctrl.opState ≠ .faulted)
    (ho : ∀ o ∈ os, o = s.ctrl.opState ∨ (s.ctrl.opState, o) ∈ OpState.accessChanges) : s.accessChange t := by
  rcases ho _ h.1 with he | hm
  · refine .inl ⟨he, ?_⟩
    have := h.2
    rwa [he, if_neg hf] at this
  · exact .inr ⟨hm, List.mem_singleton_self _, h.2⟩

theorem State.loadDone_comesTo {s : State} (bs : List Byte) : s.comesTo [.running] (s.loadDone bs) := by
  rw [State.comesTo, State.loadDone_opState, if_neg (by simp)]
  exact ⟨List.mem_singleton_self _, by simp⟩

theorem State.loaderTake_accessChange {s : State} (b : Byte)
    (ho : s.ctrl.opState = .initload ∨ s.ctrl.opState = .reloading) : s.accessChange (s.loaderTake b) := by
  unfold State.loaderTake
  split
  · exact .inl ⟨rfl, rfl⟩
  · refine (State.loadDone_comesTo _).accessChange ?_ ?_ <;>
      rcases ho with ho | ho <;> simp [ho, OpState.accessChanges]

theorem State.systemTake_accessChange {s : State} (b : Byte) : s.accessChange (s.systemTake b) := by
  unfold State.systemTake
  split
  · rename_i ho
    refine (State.recoveryTake_comesTo ho b).accessChange ?_ ?_ <;>
      simp [ho, OpState.afterRecovering, OpState.accessChanges]
  · exact State.loaderTake_accessChange b (.inl ‹_›)
  · exact State.loaderTake_accessChange b (.inr ‹_›)
  · rename_i ho
    rcases State.formatTake_cases with h | h
    · exact .inl h
    · exact h.accessChange (by simp [ho]) (by simp [ho, OpState.accessChanges])
  all_goals exact .inl ⟨rfl, rfl⟩

theorem State.engineChange.accessChange {s t : State} (h : s.engineChange t) : s.accessChange t := by
  rcases h with h | ⟨ho, h⟩
  · exact .inl h
  · exact h.accessChange (by simp [ho]) (by simp [ho, OpState.accessChanges])

theorem State.deliver_accessChange {s : State} (w : AccessOwner) (b : Byte) (o : Order) :
    s.accessChange (s.deliver w b o) := by
  unfold State.deliver
  split
  · exact .inl (State.keepsState_of_ctrl (by simp))
  · exact (State.writerTake_engineChange b o).accessChange
  · exact (State.applierTake_engineChange b o).accessChange
  · exact State.systemTake_accessChange b

/-! ## Commands -/

/-- From `s` to `t` the operating state and the cause are left, or the state changes as listed and the cause stays right. -/
def State.changesAs (c : Instr) (s t : State) : Prop :=
  s.keepsState t ∨ OpState.mayBecome c s.ctrl.opState t.ctrl.opState ∧ (s.causeRight → t.causeRight)

theorem State.keepsState.causeRight {s t : State} (h : s.keepsState t) (hs : s.causeRight) : t.causeRight := by
  rwa [State.causeRight, h.1, h.2]

/-- R136: a cause that is none is right outside FAULTED. -/
theorem State.causeRight_of_noCause {t : State} (h : t.ctrl.cause = .noCause) (ho : t.ctrl.opState ≠ .faulted) :
    t.causeRight :=
  ⟨fun hf => absurd hf ho, fun _ _ => h⟩

/-- R136: in FROZEN any cause is right. -/
theorem State.causeRight_of_frozen {t : State} (ho : t.ctrl.opState = .frozen) : t.causeRight :=
  ⟨fun hf => (nomatch ho.symm.trans hf), fun _ hf => absurd ho hf⟩

/-- R136: a change of state to or from FAULTED sets the cause with it. -/
theorem State.comesTo.causeRight {s t : State} {os : List OpState} (h : s.comesTo os t) (hs : s.causeRight)
    (hf : s.ctrl.opState ≠ .faulted) (hz : s.ctrl.opState ≠ .frozen) : t.causeRight := by
  obtain ⟨-, hc⟩ := h
  split at hc
  · exact ⟨fun _ => hc, fun hne => absurd ‹_› hne⟩
  · exact ⟨fun hfa => absurd hfa ‹_›, fun _ _ => hc.trans (hs.2 hf hz)⟩

section
variable (s : State)

theorem Always.changesAs {s : State} {c : Instr} {o : Host.Outcome State Fault Refusal} (h : Always s.keepsCtrl o) :
    Always (s.changesAs c) o :=
  fun t ht => .inl (State.keepsState_of_ctrl (h t ht))

theorem State.effectPoint_changesAs {s : State} {i : Instr} (c : MgmtCommand) (ps : List Byte) {act : State → State}
    (h : c.accepted s.ctrl.opState s.ctrl.format.isSome = true → s.changesAs i (act s)) :
    Always (s.changesAs i) (.next (s.effectPoint c ps act)) :=
  always_next.2 (State.effectPoint_of (.inl ⟨rfl, rfl⟩) (.inl ⟨rfl, rfl⟩) h)

theorem State.endStarting_opState : (s.endStarting.ctrl.opState = .recovering ∧ s.endStarting.ctrl.cause = s.ctrl.cause)
    ∨ s.endStarting.ctrl.opState = .frozen := by
  unfold State.endStarting
  split
  · exact .inr rfl
  · rw [State.grant_ctrl]
    exact .inl ⟨rfl, rfl⟩

theorem State.endStarting_changesAs {s u : State} (t : Straps) (hc : u.ctrl.cause = .noCause) :
    s.changesAs (.powerUp t) u.endStarting := by
  rcases u.endStarting_opState with ⟨ho, hcause⟩ | ho
  · exact .inr ⟨.inl ho, fun _ => State.causeRight_of_noCause (hcause.trans hc) (by simp [ho])⟩
  · exact .inr ⟨.inr ho, fun _ => State.causeRight_of_frozen ho⟩

theorem execPowerUp_changesAs (t : Straps) : Always (s.changesAs (.powerUp t)) (execPowerUp t s) := by
  unfold execPowerUp
  split
  · exact always_next.2 (State.endStarting_changesAs t rfl)
  · split
    · exact always_next.2 (State.endStarting_changesAs t rfl)
    · exact always_next.2 (.inl ⟨rfl, rfl⟩)

theorem execSupplyLoss_changesAs (ans : MemAnswer) : Always (s.changesAs (.supplyLoss ans)) (execSupplyLoss ans s) := by
  have hlost : ∀ u : State, s.changesAs (.supplyLoss ans) u.lost := fun u =>
    .inr ⟨rfl, fun _ => State.causeRight_of_noCause rfl nofun⟩
  unfold execSupplyLoss
  split
  · split
    · split
      · exact always_next.2 (hlost _)
      · exact always_fault
    · exact always_next.2 (hlost _)
  · exact always_next.2 (.inl ⟨rfl, rfl⟩)

theorem execPfailAssert_changesAs (ans : MemAnswer) : Always (s.changesAs (.pfailAssert ans)) (execPfailAssert ans s) := by
  have hstop : ∀ u : State, s.changesAs (.pfailAssert ans) u.stopOnPfail := fun u => by
    have hfrozen : u.stopOnPfail.ctrl.opState = .frozen := by
      unfold State.stopOnPfail
      split <;> rfl
    exact .inr ⟨hfrozen, fun _ => State.causeRight_of_frozen hfrozen⟩
  unfold execPfailAssert
  dsimp only
  split
  · split
    · split
      · exact always_next.2 (hstop _)
      · exact always_fault
    · exact always_next.2 (hstop _)
  · exact always_next.2 (.inl ⟨rfl, rfl⟩)

theorem execPfailRestart_changesAs : Always (s.changesAs .pfailRestart) (execPfailRestart s) := by
  unfold execPfailRestart
  dsimp only
  split
  · rename_i h
    simp only [Bool.and_eq_true, beq_iff_eq, State.setPins_ctrl] at h
    have hrecover : ∀ u : State, u.ctrl.cause = .noCause → s.changesAs .pfailRestart (u.beginRecovery .pfail).grant :=
      fun u hu => .inr ⟨⟨h.2, by simp [State.beginRecovery]⟩,
        fun _ => State.causeRight_of_noCause (by simpa [State.beginRecovery] using hu) (by simp [State.beginRecovery])⟩
    exact always_next.2 (hrecover _ rfl)
  · exact always_next.2 (.inl ⟨rfl, rfl⟩)

theorem execMemoryAccessComplete_changesAs (ans : MemAnswer) (o : Order) :
    Always (s.changesAs (.memoryAccessComplete ans o)) (execMemoryAccessComplete ans o s) := by
  unfold execMemoryAccessComplete
  split
  · split
    · split
      · rename_i u b hu
        have hctrl := State.completeAccess_ctrl hu
        refine always_next.2 ?_
        rcases State.deliver_accessChange (s := u) _ b o with h | ⟨hm, h⟩
        · refine .inl ?_
          rwa [State.keepsState, State.afterAccess_ctrl, ← hctrl]
        · rw [hctrl] at hm
          refine .inr ⟨by rwa [State.afterAccess_ctrl], fun hs => ?_⟩
          have hsource : s.ctrl.opState ≠ .faulted ∧ s.ctrl.opState ≠ .frozen := by
            simp only [OpState.accessChanges, List.mem_cons, Prod.mk.injEq, List.not_mem_nil] at hm
            constructor <;> intro hh <;> simp [hh] at hm
          rw [State.causeRight, State.afterAccess_ctrl]
          refine State.comesTo.causeRight (s := u) h ?_ (by rw [hctrl]; exact hsource.1) (by rw [hctrl]; exact hsource.2)
          rwa [State.causeRight, hctrl]
      · exact always_fault
    · exact always_next.2 (.inl ⟨rfl, rfl⟩)
  · exact always_next.2 (.inl ⟨rfl, rfl⟩)

theorem execStoreProfile_changesAs : Always (s.changesAs .storeProfile) (execStoreProfile s) := by
  refine State.effectPoint_changesAs _ _ fun _ => .inl ?_
  cases s.stage.lowestFree with
  | some i => exact ⟨by simp, by simp⟩
  | none => exact ⟨rfl, rfl⟩

theorem execLoadProfile_changesAs : Always (s.changesAs .loadProfile) (execLoadProfile s) := by
  refine State.effectPoint_changesAs _ _ fun ha => ?_
  have ho : s.ctrl.opState = .running := by simpa [MgmtCommand.accepted] using ha
  split
  · refine .inr ⟨⟨ho, by simp [State.beginLoad]⟩, fun hs => State.causeRight_of_noCause ?_ (by simp [State.beginLoad])⟩
    simpa [State.beginLoad] using hs.2 (by simp [ho]) (by simp [ho])
  · exact .inl ⟨rfl, rfl⟩

theorem execResume_changesAs : Always (s.changesAs .resume) (execResume s) := by
  refine State.effectPoint_changesAs _ _ fun ha => ?_
  have ho : s.ctrl.opState = .faulted := by simpa [MgmtCommand.accepted] using ha
  have hrun : s.resumeEngines.ctrl.opState = .running := s.resumeEngines_opState
  have hcause : s.resumeEngines.ctrl.cause = .noCause := by
    rw [State.resumeEngines_eq]
    split
    · simp [State.resumeReady]
    · simp [State.resumeReady]
  refine .inr ⟨⟨ho, by simpa using hrun⟩, fun _ => State.causeRight_of_noCause ?_ ?_⟩
  · simpa using hcause
  · simp [hrun]

theorem exec_changesAs (c : Instr) : Always (s.changesAs c) (exec c s) := by
  cases c with
  | powerUp t => exact execPowerUp_changesAs s t
  | supplyLoss ans => exact execSupplyLoss_changesAs s ans
  | pfailAssert ans => exact execPfailAssert_changesAs s ans
  | pfailRestart => exact execPfailRestart_changesAs s
  | hostReset => exact (execHostReset_keepsCtrl s).changesAs
  | hostResetRelease => exact (execHostResetRelease_keepsCtrl s).changesAs
  | hostCycle sel rd wr a d => exact (execHostCycle_keepsCtrl s sel rd wr a d).changesAs
  | hostCycleEnd => exact (execHostCycleEnd_keepsCtrl s).changesAs
  | hostCycleWithdrawn => exact (execHostCycleWithdrawn_keepsCtrl s).changesAs
  | memoryAccessComplete ans o => exact execMemoryAccessComplete_changesAs s ans o
  | writerTakeGroup => exact (execWriterTakeGroup_keepsCtrl s).changesAs
  | writerPlace => exact (execWriterPlace_keepsCtrl s).changesAs
  | applierTakeEntry => exact (execApplierTakeEntry_keepsCtrl s).changesAs
  | transactionBegin => exact (execTransactionBegin_keepsCtrl s).changesAs
  | transactionEnd => exact (execTransactionEnd_keepsCtrl s).changesAs
  | badCommand code => exact (execBadCommand_keepsCtrl s code).changesAs
  | status | report | getMask => exact (s.effectPoint_keepsCtrl _ _ rfl).changesAs
  | reportReadComplete =>
    change Always _ (execReportReadComplete s)
    unfold execReportReadComplete
    dsimp only
    split_ifs <;> exact always_next.2 (.inl ⟨rfl, rfl⟩)
  | peek => exact (execPeek_keepsCtrl s).changesAs
  | take => exact (execTake_keepsCtrl s).changesAs
  | takeRemove => exact (execTakeRemove_keepsCtrl s).changesAs
  | getRegion index => exact (execGetRegion_keepsCtrl s index).changesAs
  | putRegion index entry => exact (execPutRegion_keepsCtrl s index entry).changesAs
  | slot index => exact (execSlot_keepsCtrl s index).changesAs
  | storeProfile => exact execStoreProfile_changesAs s
  | loadProfile => exact execLoadProfile_changesAs s
  | format =>
    refine State.effectPoint_changesAs _ _ fun _ => .inl ⟨?_, ?_⟩ <;> simp
  | resume => exact execResume_changesAs s
  | discardHeld trigger => exact (execDiscardHeld_keepsCtrl s trigger).changesAs
  | mask high low => exact (execMask_keepsCtrl s high low).changesAs
  | setDefault code => exact (execSetDefault_keepsCtrl s code).changesAs

end

end Sys2Proof.Machine

open Sys2Proof.Machine

/-- Settles O6: the entries to an operating state are few, each in the list, and each sets the cause that its state asks for. -/
theorem operatingStateChangesAsListed : Obligations.OperatingStateChangesAsListed := by
  refine ⟨fun c s t h => ?_, fun c s t h hs => ?_⟩
  · rcases exec_changesAs s c t h with hk | hm
    · exact .inl hk.1
    · exact .inr hm.1
  · rcases exec_changesAs s c t h with hk | hm
    · exact hk.causeRight hs
    · exact hm.2 hs
end

section
/-! SUPPORT. The host port in accord with the memory port, and FROZEN quiet (R21, R22, R23, R154, R155). -/

namespace Sys2Proof.Machine

/-! ## The host port by itself -/

/-- R21, R23: the hold belongs to HOLDING, the slot hold to writes, and a driven HD to the answer of a read. -/
structure HostPort.Fit (h : HostPort) : Prop where
  hold : h.phase = .holding ↔ h.hold ≠ none
  slot : h.hold = some .slot → h.kind = .write
  hd : h.hd ≠ none ↔ h.phase = .answered ∧ h.kind = .read

/-- R22, R37: the host path's own access is in flight. -/
def MemPort.serves (p : MemPort) (o : AccessOwner) : Prop :=
  ∃ a, p.inFlight = some a ∧ a.owner = o

theorem State.hostPortRight_iff {s : State} :
    s.hostPortRight ↔ (s.host.phase = .access ↔ s.port.serves (.requester .host)) ∧ s.host.Fit :=
  ⟨fun ⟨ha, hh, hs, hd⟩ => ⟨ha, hh, hs, hd⟩, fun ⟨ha, hh, hs, hd⟩ => ⟨ha, hh, hs, hd⟩⟩

theorem MemPort.not_serves_of_free {p : MemPort} (h : p.inFlight = none) (o : AccessOwner) : ¬p.serves o :=
  fun ⟨_, ha, _⟩ => nomatch h.symm.trans ha

theorem HostPort.idle_fit : HostPort.idle.Fit :=
  ⟨by simp [HostPort.idle], by simp [HostPort.idle], by simp [HostPort.idle]⟩

/-- R22: without an access of its own in flight the port is right in any phase but ACCESS. -/
theorem State.hostPortRight.of_fit {t : State} (hp : ¬t.port.serves (.requester .host)) (hf : t.host.Fit)
    (ha : t.host.phase ≠ .access) : t.hostPortRight :=
  State.hostPortRight_iff.2 ⟨iff_of_false ha hp, hf⟩

theorem State.hostPortRight.of_eq {s t : State} (h : s.hostPortRight) (hh : t.host = s.host) (hp : t.port = s.port) :
    t.hostPortRight := by
  rwa [State.hostPortRight, hh, hp]

theorem State.hostPortRight.of_idle {t : State} (hh : t.host = HostPort.idle) (hp : ¬t.port.serves (.requester .host)) :
    t.hostPortRight :=
  .of_fit hp (by rw [hh]; exact HostPort.idle_fit) (by rw [hh]; nofun)

/-- R22: outside ACCESS no access of the host path is in flight. -/
theorem State.hostPortRight.not_serves {s : State} (h : s.hostPortRight) (ha : s.host.phase ≠ .access) :
    ¬s.port.serves (.requester .host) :=
  fun hs => ha ((State.hostPortRight_iff.1 h).1.2 hs)

/-! ## Service (R21 to R35) -/

/-- The port after a service: fit, and not in ACCESS. -/
def State.served (t : State) : Prop :=
  t.host.Fit ∧ t.host.phase ≠ .access

section
variable {s : State}

theorem State.served.of_host {t : State} (h : s.served) (hh : t.host = s.host) : t.served := by
  rwa [State.served, hh]

theorem State.answerRead_served (b : Byte) (hk : s.host.kind = .read) : (s.answerRead b).served :=
  ⟨⟨by simp [State.answerRead], by simp [State.answerRead], by simp [State.answerRead, hk]⟩, by simp [State.answerRead]⟩

theorem State.answerWrite_served (hk : s.host.kind = .write) : s.answerWrite.served :=
  ⟨⟨by simp [State.answerWrite], by simp [State.answerWrite], by simp [State.answerWrite, hk]⟩, by simp [State.answerWrite]⟩

theorem State.serveHidden_served (c : AddrClass) : (s.serveHidden c).served := by
  unfold State.serveHidden
  dsimp only
  split
  · exact State.answerRead_served _ ‹_›
  · exact State.answerWrite_served ‹_›

theorem State.storeInto_served (i : Fin 8) (r : RecordRef) (hk : s.host.kind = .write) : (s.storeInto i r).served := by
  unfold State.storeInto
  dsimp only
  split
  · exact State.answerWrite_served (by simpa using hk)
  · exact State.answerWrite_served hk

variable (hd : s.host.hd = none)
include hd

theorem State.postRequest_served : s.postRequest.served :=
  ⟨⟨by simp [State.postRequest], by simp [State.postRequest], by simp [State.postRequest, hd]⟩,
    by simp [State.postRequest]⟩

theorem State.holdCycle_served {k : HoldKind} (hk : k = .slot → s.host.kind = .write) : (s.holdCycle k).served :=
  ⟨⟨by simp [State.holdCycle], fun h => hk (Option.some.inj h), by simp [State.holdCycle, hd]⟩, by simp [State.holdCycle]⟩

theorem State.stageWrite_served (r : RecordRef) (hk : s.host.kind = .write) : (s.stageWrite r).served := by
  unfold State.stageWrite
  split
  · exact State.storeInto_served _ r hk
  · split
    · exact State.storeInto_served _ r hk
    · split
      · exact State.holdCycle_served hd fun _ => hk
      · exact State.answerWrite_served hk

theorem State.serveRunning_served (k : Lookup) : (s.serveRunning k).served := by
  unfold State.serveRunning
  split
  · exact State.postRequest_served hd
  · split
    · exact State.postRequest_served hd
    · exact State.answerWrite_served ‹_›
  · exact State.serveHidden_served _
  · exact State.serveHidden_served _
  · split
    · unfold State.stageRead
      split
      · exact State.answerRead_served _ ‹_›
      · exact State.postRequest_served hd
    · exact State.stageWrite_served hd _ ‹_›
    · exact State.postRequest_served hd

theorem State.serve_served (ho : s.ctrl.opState ≠ .frozen) : s.serve.served := by
  have hfound : (s.setHost { s.host with found := some (s.lookup s.host.addr.toNat) }).host.hd = none := hd
  unfold State.serve
  dsimp only
  split
  iterate 4 exact State.holdCycle_served hd nofun
  · exact State.serveRunning_served hfound _
  · unfold State.serveFaulted
    split
    · exact State.answerWrite_served ‹_›
    · exact State.serveRunning_served hfound _
  · split
    · exact State.holdCycle_served hd nofun
    · unfold State.serveLocked
      split
      · exact State.answerWrite_served ‹_›
      · exact State.serveRunning_served hfound _
  · exact absurd ‹_› ho

end

/-- R33: a held cycle that is decoded afresh leaves the port right. -/
theorem State.serve_hostPortRight {s : State} (h : s.hostPortRight) (hp : s.host.phase = .holding)
    (ho : s.ctrl.opState ≠ .frozen) : s.serve.hostPortRight := by
  have hd : s.host.hd = none := by
    by_contra hne
    have := ((State.hostPortRight_iff.1 h).2.hd.1 hne).1
    rw [hp] at this
    cases this
  obtain ⟨hfit, hph⟩ := State.serve_served hd ho
  exact .of_fit (by simpa using h.not_serves (by rw [hp]; nofun)) hfit hph

section
variable {s : State} (h : s.hostPortRight)
include h

theorem State.endStateHold_hostPortRight : s.endStateHold.hostPortRight := by
  unfold State.endStateHold
  split
  iterate 4
    rename_i hp _ ho
    exact State.serve_hostPortRight h hp (by rw [ho]; nofun)
  exact h

theorem State.redecodeHeld_hostPortRight : s.redecodeHeld.hostPortRight := by
  unfold State.redecodeHeld
  split
  · rename_i hp _ ho
    exact State.serve_hostPortRight h hp (by rw [ho]; nofun)
  · exact h

theorem State.endSlotHold_hostPortRight : s.endSlotHold.hostPortRight := by
  unfold State.endSlotHold
  split
  · exact State.redecodeHeld_hostPortRight h
  · exact h

theorem State.refuseSlotHold_hostPortRight : s.refuseSlotHold.hostPortRight := by
  unfold State.refuseSlotHold
  split
  · rename_i hp hh
    obtain ⟨hfit, hph⟩ := State.answerWrite_served (s := s.writeDenied deniedFaulted (s.host.found.bind Lookup.region))
      ((State.hostPortRight_iff.1 h).2.slot hh)
    exact .of_fit (h.not_serves (by rw [hp]; nofun)) hfit hph
  · exact h

/-! ## Grants (R22, R38) -/

theorem State.grantTo_hostPortRight {r : Requester} {a : Access} (hn : s.port.inFlight = none) (hw : s.wants r = some a) :
    (s.grantTo r a).hostPortRight := by
  have hna : s.host.phase ≠ .access := fun hp =>
    MemPort.not_serves_of_free hn _ ((State.hostPortRight_iff.1 h).1.1 hp)
  obtain ⟨-, hfit⟩ := State.hostPortRight_iff.1 h
  have hown := State.wants_owner hw
  cases r with
  | host =>
    have hwait := (State.hostWants_cases hw).1
    have hhold : s.host.hold = none := by
      by_contra hne
      have := hfit.hold.2 hne
      rw [hwait] at this
      cases this
    have hhd : s.host.hd = none := by
      by_contra hne
      have := (hfit.hd.1 hne).1
      rw [hwait] at this
      cases this
    refine State.hostPortRight_iff.2 ⟨iff_of_true rfl ⟨a, rfl, hown⟩, ?_⟩
    exact ⟨by simp [State.grantTo, hhold], by simp [State.grantTo, hhold], by simp [State.grantTo, hhd]⟩
  | writer | applier =>
    refine .of_fit ?_ hfit hna
    rintro ⟨x, hx, ho⟩
    cases hx
    rw [hown] at ho
    cases ho

theorem State.grantAmong_hostPortRight (rs : List Requester) : (s.grantAmong rs).hostPortRight := by
  rcases State.grantAmong_cases s rs with e | ⟨r, a, hn, hw, e⟩
  · rwa [e]
  · rw [e]
    exact State.grantTo_hostPortRight h hn hw

theorem State.grant_hostPortRight : s.grant.hostPortRight := by
  rcases State.grant_cases s with e | ⟨r, a, hn, hw, e⟩ | ⟨a, hn, hw, e⟩
  · rwa [e]
  · rw [e]
    exact State.grantTo_hostPortRight h hn hw
  · rw [e]
    obtain ⟨ha, hfit⟩ := State.hostPortRight_iff.1 h
    refine .of_fit ?_ hfit fun hp => MemPort.not_serves_of_free hn _ (ha.1 hp)
    rintro ⟨x, hx, ho⟩
    cases hx
    rw [State.systemWants_owner hw] at ho
    cases ho

theorem State.grantBy_hostPortRight (o : Order) : (s.grantBy o).hostPortRight := by
  rcases State.grantBy_cases s o with ⟨e, -⟩ | e
  · rwa [e]
  · rw [e]
    exact State.grant_hostPortRight h

theorem State.chooseThenHeld_hostPortRight : s.chooseThenHeld.hostPortRight := by
  have hgrant := State.grant_hostPortRight h
  unfold State.chooseThenHeld
  dsimp only
  split
  · exact State.grant_hostPortRight hgrant
  · exact State.grant_hostPortRight (State.endSlotHold_hostPortRight hgrant)

theorem State.afterAccess_hostPortRight (o : Order) : (s.afterAccess o).hostPortRight := by
  unfold State.afterAccess
  split
  · exact State.grantBy_hostPortRight (State.endSlotHold_hostPortRight h) _
  · exact State.grantBy_hostPortRight (State.endSlotHold_hostPortRight h) _
  · exact State.chooseThenHeld_hostPortRight h
  · split
    · exact h
    · exact State.chooseThenHeld_hostPortRight h

/-! ## A completed access (R36) -/

theorem State.enterFaulted_hostPortRight (c : FaultCause) (e : Requester) (o : Order) :
    (s.enterFaulted c e o).hostPortRight := by
  unfold State.enterFaulted
  refine State.refuseSlotHold_hostPortRight (State.hostPortRight.of_eq (s := match o with
    | .heldFirst | .heldThenTake => s
    | .otherFirst | .takeFirst => s.grantAmong (Requester.all.filter (· != e))) ?_ rfl rfl)
  cases o
  · exact h
  · exact State.grantAmong_hostPortRight h _
  · exact h
  · exact State.grantAmong_hostPortRight h _

theorem State.writerAdvance_hostPortRight (r : StepResult) (o : Order) : (s.writerAdvance r o).hostPortRight := by
  unfold State.writerAdvance
  split
  · unfold State.journalFault
    split
    · split
      · exact h
      · exact State.enterFaulted_hostPortRight (s := s.logJournalFault _ _) h _ _ _
    · exact h
  all_goals exact h.of_eq (by simp) (by simp)

theorem State.writerTake_hostPortRight (b : Byte) (o : Order) : (s.writerTake b o).hostPortRight := by
  have step : ∀ r, (if s.writer.resuming then s.writerResume r o else s.writerAdvance r o).hostPortRight := by
    intro r
    split
    · unfold State.writerResume
      cases r with
      | done => exact State.writerAdvance_hostPortRight h .done o
      | more | unequal => exact h
    · exact State.writerAdvance_hostPortRight h r o
  unfold State.writerTake
  split
  · split <;> exact h
  · exact h.of_eq (by simp) (by simp)
  · exact h
  all_goals exact step _

theorem State.applierAdvance_hostPortRight (r : StepResult) (o : Order) : (s.applierAdvance r o).hostPortRight := by
  unfold State.applierAdvance
  split
  · unfold State.applyFault
    split
    · split
      · exact h
      · exact State.enterFaulted_hostPortRight (s := s.logApplyFault _ _ _ _) h _ _ _
    · exact h
  · exact h
  · split <;> exact h
  all_goals exact h.of_eq (by simp) (by simp)

theorem State.applierTake_hostPortRight (b : Byte) (o : Order) : (s.applierTake b o).hostPortRight := by
  unfold State.applierTake
  dsimp only
  split
  · unfold State.applierResume
    cases stepResult s.applierProgram s.applier.idx b with
    | done => exact State.applierAdvance_hostPortRight h .done o
    | more | unequal => exact h
  · exact State.applierAdvance_hostPortRight h _ o

omit h in
theorem State.hostTake_hostPortRight (b : Byte) (hp : s.port.inFlight = none) : (s.hostTake b).hostPortRight := by
  have hfree := MemPort.not_serves_of_free hp (.requester .host)
  unfold State.hostTake
  split
  · obtain ⟨hfit, hph⟩ := State.answerRead_served b ‹_›
    exact .of_fit hfree hfit hph
  · obtain ⟨hfit, hph⟩ := State.answerWrite_served ‹s.host.kind = .write›
    exact .of_fit hfree hfit hph
  all_goals exact .of_idle rfl hfree

theorem State.recoveryFault_hostPortRight : s.recoveryFault.hostPortRight :=
  State.endStateHold_hostPortRight (State.hostPortRight.of_eq h rfl rfl)

theorem State.enterLocked_hostPortRight : s.enterLocked.hostPortRight :=
  State.endStateHold_hostPortRight (State.hostPortRight.of_eq h rfl rfl)

theorem State.anchorsTake_hostPortRight (b : Byte) : (s.anchorsTake b).hostPortRight := by
  unfold State.anchorsTake
  dsimp only
  split
  · exact h
  · unfold State.anchorsRead
    dsimp only
    split
    · exact h.of_eq (by simp) (by simp)
    · split
      · exact h
      · exact State.enterLocked_hostPortRight h

theorem State.replayAdvance_hostPortRight (x : StepResult) : (s.replayAdvance x).hostPortRight := by
  unfold State.replayAdvance
  dsimp only
  split
  · unfold State.replayFault
    dsimp only
    split
    · exact h
    · exact State.recoveryFault_hostPortRight (s := s.logApplyFault _ _ _ _) h
  · exact h
  · split <;> exact h
  · exact h
  · exact h.of_eq (by simp) (by simp)
  · exact h

theorem State.recoveryTake_hostPortRight (b : Byte) : (s.recoveryTake b).hostPortRight := by
  unfold State.recoveryTake
  split
  · exact h
  · exact State.anchorsTake_hostPortRight h b
  · exact h.of_eq (by simp) (by simp)
  iterate 3 exact State.replayAdvance_hostPortRight h _
  · exact h.of_eq (by simp) (by simp)

theorem State.loaderTake_hostPortRight (b : Byte) : (s.loaderTake b).hostPortRight := by
  unfold State.loaderTake
  split
  · exact h
  · unfold State.loadDone
    refine State.endStateHold_hostPortRight (State.hostPortRight.of_eq (s := s) h ?_ ?_)
    all_goals
      dsimp only
      split <;> simp

theorem State.systemTake_hostPortRight (b : Byte) : (s.systemTake b).hostPortRight := by
  unfold State.systemTake
  split
  · exact State.recoveryTake_hostPortRight h b
  iterate 2 exact State.loaderTake_hostPortRight h b
  · exact h.of_eq (by simp) (by simp)
  all_goals exact h

omit h in
theorem State.deliver_hostPortRight {t : State} {a : Access} {ans : MemAnswer} {x : Byte} (hs : s.hostPortRight)
    (hfl : s.port.inFlight = some a) (hc : s.completeAccess a ans = some (t, x)) (b : Byte) (o : Order) :
    (t.deliver a.owner b o).hostPortRight := by
  have hhost : t.host = s.host ∧ t.port.inFlight = none := by
    obtain ⟨-, ⟨-, rfl⟩ | ⟨_, _, -, rfl⟩⟩ := State.completeAccess_cases hc <;> exact ⟨rfl, rfl⟩
  by_cases hw : a.owner = .requester .host
  · rw [hw]
    exact State.hostTake_hostPortRight b hhost.2
  · have hna : s.host.phase ≠ .access := fun hp => by
      obtain ⟨x, hx, ho⟩ := (State.hostPortRight_iff.1 hs).1.1 hp
      cases hfl.symm.trans hx
      exact hw ho
    have ht : t.hostPortRight := by
      obtain ⟨hh, hn⟩ := hhost
      exact .of_fit (MemPort.not_serves_of_free hn _) (by rw [hh]; exact (State.hostPortRight_iff.1 hs).2) (by rwa [hh])
    unfold State.deliver
    split
    · exact absurd ‹a.owner = .requester .host› hw
    · exact State.writerTake_hostPortRight ht b o
    · exact State.applierTake_hostPortRight ht b o
    · exact State.systemTake_hostPortRight ht b

end

/-! ## Commands -/

section
variable (s : State)

theorem execPowerUp_hostPortRight (t : Straps) (h : s.hostPortRight) : Always State.hostPortRight (execPowerUp t s) := by
  have hend : ∀ u : State, u.hostPortRight → u.endStarting.hostPortRight := fun u hu => by
    unfold State.endStarting
    split
    · exact .of_idle rfl (MemPort.not_serves_of_free rfl _)
    · exact State.grant_hostPortRight (State.hostPortRight.of_eq hu rfl rfl)
  unfold execPowerUp
  split
  · exact always_next.2 (hend _ (.of_idle rfl (MemPort.not_serves_of_free rfl _)))
  · split
    · refine always_next.2 (hend _ ?_)
      have hfree := MemPort.not_serves_of_free (p := MemPort.cleared) rfl (.requester .host)
      rcases HostPort.afterStarting_cases s.host with ⟨hp, hh⟩ | ⟨-, hh⟩
      · obtain ⟨-, hfit⟩ := State.hostPortRight_iff.1 h
        rw [hh]
        exact State.hostPortRight.of_fit (t := (s.clearVolatile t).setHost s.host) hfree (by rwa [State.setHost_host])
          (by rw [State.setHost_host, hp]; nofun)
      · rw [hh]
        exact State.hostPortRight.of_idle (t := (s.clearVolatile t).setHost HostPort.idle) rfl hfree
    · exact always_next.2 h

theorem execSupplyLoss_hostPortRight (ans : MemAnswer) (h : s.hostPortRight) :
    Always State.hostPortRight (execSupplyLoss ans s) := by
  have hlost : ∀ u : State, u.lost.hostPortRight := fun u => .of_idle rfl (MemPort.not_serves_of_free rfl _)
  unfold execSupplyLoss
  split
  · split
    · split
      · exact always_next.2 (hlost _)
      · exact always_fault
    · exact always_next.2 (hlost _)
  · exact always_next.2 h

theorem execPfailAssert_hostPortRight (ans : MemAnswer) (h : s.hostPortRight) :
    Always State.hostPortRight (execPfailAssert ans s) := by
  have hstop : ∀ u : State, u.stopOnPfail.hostPortRight := fun u => by
    unfold State.stopOnPfail
    split <;> exact .of_idle rfl (MemPort.not_serves_of_free rfl _)
  unfold execPfailAssert
  dsimp only
  split
  · split
    · split
      · exact always_next.2 (hstop _)
      · exact always_fault
    · exact always_next.2 (hstop _)
  · exact always_next.2 h

theorem execPfailRestart_hostPortRight (h : s.hostPortRight) : Always State.hostPortRight (execPfailRestart s) := by
  unfold execPfailRestart
  dsimp only
  split
  · exact always_next.2 (State.grant_hostPortRight (.of_idle rfl (MemPort.not_serves_of_free rfl _)))
  · exact always_next.2 h

theorem execHostReset_hostPortRight (h : s.hostPortRight) : Always State.hostPortRight (execHostReset s) := by
  have hreset : ((s.setPins { s.pins with srst := true }).setHost s.host.onReset).hostPortRight := by
    obtain ⟨ha, hf⟩ := State.hostPortRight_iff.1 h
    by_cases hp : s.host.phase = .access
    · have hreset : s.host.onReset = { s.host with fate := .abandoned } := by simp [HostPort.onReset, hp]
      rw [hreset]
      exact State.hostPortRight_iff.2 ⟨ha, hf.hold, hf.slot, hf.hd⟩
    · have hreset : s.host.onReset = HostPort.idle := by
        unfold HostPort.onReset
        split
        · exact absurd ‹_› hp
        all_goals rfl
      exact .of_idle hreset (h.not_serves hp)
  unfold execHostReset
  dsimp only
  split
  · exact always_next.2 h
  · split
    · exact always_next.2 (hreset.of_eq (by simp) (by simp))
    · exact always_next.2 hreset

theorem execHostCycle_hostPortRight (sel rd wr : Bool) (a : Addr) (d : Byte) (h : s.hostPortRight) :
    Always State.hostPortRight (execHostCycle sel rd wr a d s) := by
  unfold execHostCycle
  split
  · rename_i hc
    simp only [State.takesCycles, Bool.and_eq_true, beq_iff_eq, Bool.not_eq_true', bne_iff_ne] at hc
    obtain ⟨-, ⟨⟨-, hidle⟩, -⟩, ho⟩ := hc
    obtain ⟨hfit, hph⟩ := State.serve_served (s := s.setHost (HostPort.captured (if rd then .read else .write) a d)) rfl ho
    exact always_next.2 (State.grant_hostPortRight (.of_fit (by simpa using h.not_serves (by rw [hidle]; nofun)) hfit hph))
  · exact always_next.2 h

theorem execHostCycleEnd_hostPortRight (h : s.hostPortRight) : Always State.hostPortRight (execHostCycleEnd s) := by
  unfold execHostCycleEnd
  split
  · rename_i hc
    simp only [Bool.and_eq_true, beq_iff_eq] at hc
    exact always_next.2 (.of_idle rfl (h.not_serves (by rw [hc.2]; nofun)))
  · exact always_next.2 h

theorem execHostCycleWithdrawn_hostPortRight (h : s.hostPortRight) :
    Always State.hostPortRight (execHostCycleWithdrawn s) := by
  obtain ⟨ha, hf⟩ := State.hostPortRight_iff.1 h
  have hfate : (s.setHost { s.host with fate := .withdrawn }).hostPortRight :=
    State.hostPortRight_iff.2 ⟨ha, hf.hold, hf.slot, hf.hd⟩
  unfold execHostCycleWithdrawn
  split
  · split
    · rename_i hp
      exact always_next.2 (.of_idle rfl (h.not_serves (by rw [hp]; nofun)))
    iterate 2
      split
      · exact always_next.2 hfate
      · exact always_next.2 h
    all_goals exact always_next.2 h
  · exact always_next.2 h

theorem execMemoryAccessComplete_hostPortRight (ans : MemAnswer) (o : Order) (h : s.hostPortRight) :
    Always State.hostPortRight (execMemoryAccessComplete ans o s) := by
  unfold execMemoryAccessComplete
  split
  · split
    · split
      · exact always_next.2 (State.afterAccess_hostPortRight (State.deliver_hostPortRight h ‹_› ‹_› _ o) o)
      · exact always_fault
    · exact always_next.2 h
  · exact always_next.2 h

theorem execWriterTakeGroup_hostPortRight (h : s.hostPortRight) : Always State.hostPortRight (execWriterTakeGroup s) := by
  unfold execWriterTakeGroup
  split
  · split
    · exact always_next.2 (State.chooseThenHeld_hostPortRight (h.of_eq (by simp) (by simp)))
    · exact always_next.2 h
  · exact always_next.2 h

theorem execWriterPlace_hostPortRight (h : s.hostPortRight) : Always State.hostPortRight (execWriterPlace s) := by
  unfold execWriterPlace
  split
  · exact always_next.2 (State.chooseThenHeld_hostPortRight (h.of_eq (by simp) (by simp)))
  · exact always_next.2 h

theorem execApplierTakeEntry_hostPortRight (h : s.hostPortRight) :
    Always State.hostPortRight (execApplierTakeEntry s) := by
  unfold execApplierTakeEntry
  split
  · split
    · exact always_next.2 (State.chooseThenHeld_hostPortRight (h.of_eq rfl rfl))
    · exact always_next.2 h
  · exact always_next.2 h

/-- R189: an effect that leaves the port right leaves it right at the effect point. -/
theorem State.effectPoint_hostPortRight {s : State} (h : s.hostPortRight) (c : MgmtCommand) (ps : List Byte)
    {act : State → State} (ha : (act s).hostPortRight) : Always State.hostPortRight (.next (s.effectPoint c ps act)) :=
  always_next.2 (State.effectPoint_of h h fun _ => ha)

theorem execStoreProfile_hostPortRight (h : s.hostPortRight) : Always State.hostPortRight (execStoreProfile s) := by
  refine State.effectPoint_hostPortRight h _ _ ?_
  split
  · exact State.grant_hostPortRight (State.redecodeHeld_hostPortRight (h.of_eq (by simp) (by simp)))
  · exact h

theorem execLoadProfile_hostPortRight (h : s.hostPortRight) : Always State.hostPortRight (execLoadProfile s) := by
  refine State.effectPoint_hostPortRight h _ _ ?_
  split
  · exact State.grant_hostPortRight (h.of_eq rfl rfl)
  · exact h

theorem execResume_hostPortRight (h : s.hostPortRight) : Always State.hostPortRight (execResume s) :=
  State.effectPoint_hostPortRight h _ _ (State.grant_hostPortRight (h.of_eq (by simp) (by simp)))

theorem execDiscardHeld_hostPortRight (trigger : Option Byte) (h : s.hostPortRight) :
    Always State.hostPortRight (execDiscardHeld trigger s) := by
  cases trigger with
  | none => exact always_next.2 (h.of_eq (by simp) (by simp))
  | some b =>
    refine State.effectPoint_hostPortRight h _ _ ?_
    split
    · exact h
    · exact State.grant_hostPortRight (State.endSlotHold_hostPortRight (h.of_eq (by simp) (by simp)))

theorem exec_hostPortRight (c : Instr) {s : State} (h : s.hostPortRight) : Always State.hostPortRight (exec c s) := by
  by_cases hc : c.quiet = true
  · intro t ht
    have hq := exec_quietTo s c hc t ht
    exact h.of_eq hq.host hq.port
  cases c with
  | powerUp t => exact execPowerUp_hostPortRight s t h
  | supplyLoss ans => exact execSupplyLoss_hostPortRight s ans h
  | pfailAssert ans => exact execPfailAssert_hostPortRight s ans h
  | pfailRestart => exact execPfailRestart_hostPortRight s h
  | hostReset => exact execHostReset_hostPortRight s h
  | hostCycle sel rd wr a d => exact execHostCycle_hostPortRight s sel rd wr a d h
  | hostCycleEnd => exact execHostCycleEnd_hostPortRight s h
  | hostCycleWithdrawn => exact execHostCycleWithdrawn_hostPortRight s h
  | memoryAccessComplete ans o => exact execMemoryAccessComplete_hostPortRight s ans o h
  | writerTakeGroup => exact execWriterTakeGroup_hostPortRight s h
  | writerPlace => exact execWriterPlace_hostPortRight s h
  | applierTakeEntry => exact execApplierTakeEntry_hostPortRight s h
  | storeProfile => exact execStoreProfile_hostPortRight s h
  | loadProfile => exact execLoadProfile_hostPortRight s h
  | format => exact State.effectPoint_hostPortRight h _ _ (State.grant_hostPortRight (h.of_eq rfl rfl))
  | resume => exact execResume_hostPortRight s h
  | discardHeld trigger => exact execDiscardHeld_hostPortRight s trigger h
  | _ => exact absurd rfl hc

/-! ## FROZEN (R32, R154, R155) -/

theorem State.freeze_frozenQuiet : s.freeze.frozenQuiet :=
  fun _ => ⟨rfl, rfl, rfl⟩

theorem State.frozenQuiet_of_opState {s : State} (h : s.ctrl.opState ≠ .frozen) : s.frozenQuiet :=
  fun hf => absurd hf h

theorem execPowerUp_frozenQuiet (t : Straps) (h : s.frozenQuiet) : Always State.frozenQuiet (execPowerUp t s) := by
  have hend : ∀ u : State, u.endStarting.frozenQuiet := fun u => by
    unfold State.endStarting
    split
    · exact u.freeze_frozenQuiet
    · exact State.frozenQuiet_of_opState (by simp [State.beginRecovery])
  unfold execPowerUp
  split
  · exact always_next.2 (hend _)
  · split
    · exact always_next.2 (hend _)
    · exact always_next.2 h

theorem execSupplyLoss_frozenQuiet (ans : MemAnswer) (h : s.frozenQuiet) :
    Always State.frozenQuiet (execSupplyLoss ans s) := by
  have hlost : ∀ u : State, u.lost.frozenQuiet := fun u => State.frozenQuiet_of_opState nofun
  unfold execSupplyLoss
  split
  · split
    · split
      · exact always_next.2 (hlost _)
      · exact always_fault
    · exact always_next.2 (hlost _)
  · exact always_next.2 h

theorem execPfailAssert_frozenQuiet (ans : MemAnswer) (h : s.frozenQuiet) :
    Always State.frozenQuiet (execPfailAssert ans s) := by
  have hstop : ∀ u : State, u.stopOnPfail.frozenQuiet := fun u => by
    unfold State.stopOnPfail
    split
    · exact State.freeze_frozenQuiet _
    · exact u.freeze_frozenQuiet
  unfold execPfailAssert
  dsimp only
  split
  · split
    · split
      · exact always_next.2 (hstop _)
      · exact always_fault
    · exact always_next.2 (hstop _)
  · exact always_next.2 h

theorem execPfailRestart_frozenQuiet (h : s.frozenQuiet) : Always State.frozenQuiet (execPfailRestart s) := by
  unfold execPfailRestart
  dsimp only
  split
  · exact always_next.2 (State.frozenQuiet_of_opState (by simp [State.beginRecovery]))
  · exact always_next.2 h

theorem execHostReset_frozenQuiet (h : s.frozenQuiet) : Always State.frozenQuiet (execHostReset s) := by
  unfold execHostReset
  dsimp only
  split
  · exact always_next.2 h
  · rename_i hn
    have ho : s.ctrl.opState ≠ .frozen := fun hf => hn (by simp [hf])
    split <;> exact always_next.2 (State.frozenQuiet_of_opState (by simpa using ho))

/-- R134: a command that never leads to FROZEN, and there does nothing, keeps FROZEN quiet. -/
theorem exec_frozenQuiet_of_nothing {c : Instr} {s : State} (h : s.frozenQuiet)
    (hb : ∀ o, ¬OpState.mayBecome c o .frozen)
    (hn : s.ctrl.opState = .frozen → s.port.inFlight = none → s.host.phase = .idle → exec c s = .next s) :
    Always State.frozenQuiet (exec c s) := by
  intro t ht hf
  have ho : s.ctrl.opState = .frozen := by
    rcases exec_changesAs s c t ht with hk | hm
    · exact hk.1.symm.trans hf
    · rw [hf] at hm
      exact absurd hm.1 (hb _)
  obtain ⟨hp, hh, hm⟩ := h ho
  rw [hn ho hp hh] at ht
  cases ht
  exact ⟨hp, hh, hm⟩

/-- R189: in FROZEN a management command does nothing. -/
theorem State.effectPoint_frozen {s : State} (ho : s.ctrl.opState = .frozen) (c : MgmtCommand) (ps : List Byte)
    (act : State → State) : s.effectPoint c ps act = s :=
  State.effectPoint_of_not_awaits (Bool.eq_false_iff.2 fun hw => State.awaits_not_frozen hw ho)

/-- R32, R154, R155: every command keeps FROZEN quiet. -/
theorem exec_frozenQuiet (c : Instr) {s : State} (h : s.frozenQuiet) : Always State.frozenQuiet (exec c s) := by
  by_cases hc : c.quiet = true
  · intro t ht hf
    have hq := exec_quietTo s c hc t ht
    rw [hq.opState] at hf
    obtain ⟨hp, hh, hm⟩ := h hf
    exact ⟨by rw [hq.port, hp], by rw [hq.host, hh], hq.blocked hf hm⟩
  cases c with
  | powerUp t => exact execPowerUp_frozenQuiet s t h
  | supplyLoss ans => exact execSupplyLoss_frozenQuiet s ans h
  | pfailAssert ans => exact execPfailAssert_frozenQuiet s ans h
  | pfailRestart => exact execPfailRestart_frozenQuiet s h
  | hostReset => exact execHostReset_frozenQuiet s h
  | hostCycle sel rd wr a d =>
    exact exec_frozenQuiet_of_nothing h (fun _ => id) fun ho _ _ => if_neg (by simp [State.takesCycles, ho])
  | hostCycleEnd => exact exec_frozenQuiet_of_nothing h (fun _ => id) fun _ _ hh => if_neg (by simp [hh])
  | hostCycleWithdrawn =>
    refine exec_frozenQuiet_of_nothing h (fun _ => id) fun _ _ hh => ?_
    change execHostCycleWithdrawn s = _
    simp [execHostCycleWithdrawn, hh]
  | memoryAccessComplete ans o =>
    refine exec_frozenQuiet_of_nothing h (fun _ => by simp [OpState.mayBecome]) fun _ hp _ => ?_
    change execMemoryAccessComplete ans o s = _
    simp [execMemoryAccessComplete, hp]
  | writerTakeGroup =>
    exact exec_frozenQuiet_of_nothing h (fun _ => id) fun ho _ _ => if_neg (by simp [State.writerFree, ho])
  | writerPlace =>
    exact exec_frozenQuiet_of_nothing h (fun _ => id) fun ho _ _ => if_neg (by simp [State.writerPlacing, ho])
  | applierTakeEntry =>
    exact exec_frozenQuiet_of_nothing h (fun _ => id) fun ho _ _ => if_neg (by simp [State.applierFree, ho])
  | storeProfile | format =>
    exact exec_frozenQuiet_of_nothing h (fun _ => id) fun ho _ _ => congrArg _ (State.effectPoint_frozen ho _ _ _)
  | loadProfile | resume =>
    exact exec_frozenQuiet_of_nothing h (fun _ hb => nomatch hb.2) fun ho _ _ =>
      congrArg _ (State.effectPoint_frozen ho _ _ _)
  | discardHeld trigger =>
    refine exec_frozenQuiet_of_nothing h (fun _ => id) fun ho _ _ => ?_
    cases trigger with
    | none =>
      exact congrArg _ (State.takeBytes_of_not_awaits (Bool.eq_false_iff.2 fun hw => State.awaits_not_frozen hw ho))
    | some b => exact congrArg _ (State.effectPoint_frozen ho _ _ _)
  | _ => exact absurd rfl hc

end

end Sys2Proof.Machine

open Sys2Proof.Machine

/-- Settles O7: every service ends fit, a grant and a completed access move both ports together, and the two entries to FROZEN
free the ports. -/
theorem hostPortAndFrozenStayRight : Obligations.HostPortAndFrozenStayRight :=
  ⟨fun _ _ hstep => step_keeps (fun hq h => h.of_eq hq.host hq.port) (fun c _ => exec_hostPortRight c) hstep,
    fun _ _ hstep => step_keeps
      (fun hq h hf => by
        rw [hq.opState] at hf
        obtain ⟨hp, hh, hm⟩ := h hf
        exact ⟨by rw [hq.port, hp], by rw [hq.host, hh], hq.blocked hf hm⟩)
      (fun c _ => exec_frozenQuiet c) hstep⟩
end

section
/-! SUPPORT. What each command does to the memory and to the Writer's phase MARK, and where the Writer and the anchor write
put their bytes (R36, R37, R101, R112, R114). -/

namespace Sys2Proof.Machine

/-! ## Memory (R36) -/

/-- From `s` to `t` memory is left, or the write in flight has left a byte at its address. -/
def State.movesMem (s t : State) : Prop :=
  t.mem = s.mem ∨ ∃ x v c, s.port.inFlight = some x ∧ x.op = .write v ∧ t.mem = s.mem.write x.addr c

theorem State.movesMem.memoryKept {s t : State} (h : s.movesMem t) : s.memoryKept t := by
  intro a ha
  rcases h with h | ⟨x, v, c, hx, hop, h⟩
  · rw [h]
  · rw [h]
    exact Memory.read_write_other _ _ (ha x v hx hop).symm

theorem State.movesMem.wf {s t : State} (h : s.movesMem t) (hs : Memory.wf s.mem = true) : Memory.wf t.mem = true := by
  rcases h with h | ⟨x, v, c, -, -, h⟩
  · rwa [h]
  · rw [h]
    exact Memory.write_wf hs _ _

theorem State.movesMem.of_eq {s t u : State} (h : s.movesMem t) (hm : u.mem = t.mem) : s.movesMem u := by
  rwa [State.movesMem, hm]

section
variable (s : State)

theorem State.completeAccess_movesMem {s t : State} {a : Access} {ans : MemAnswer} {b : Byte}
    (ha : s.port.inFlight = some a) (h : s.completeAccess a ans = some (t, b)) : s.movesMem t := by
  obtain ⟨-, ⟨-, rfl⟩ | ⟨v, c, hop, rfl⟩⟩ := State.completeAccess_cases h
  · exact .inl rfl
  · exact .inr ⟨a, v, c, ha, hop, rfl⟩

theorem execPowerUp_movesMem (t : Straps) : Always s.movesMem (execPowerUp t s) := by
  unfold execPowerUp
  split
  · exact always_next.2 (.inl (by simp))
  · split <;> exact always_next.2 (.inl (by simp))

theorem execSupplyLoss_movesMem (ans : MemAnswer) : Always s.movesMem (execSupplyLoss ans s) := by
  unfold execSupplyLoss
  split
  · split
    · split
      · rename_i a hfl _ u b hu
        exact always_next.2 ((State.completeAccess_movesMem hfl hu).of_eq (by simp))
      · exact always_fault
    · exact always_next.2 (.inl (by simp))
  · exact always_next.2 (.inl rfl)

theorem execPfailAssert_movesMem (ans : MemAnswer) : Always s.movesMem (execPfailAssert ans s) := by
  unfold execPfailAssert
  dsimp only
  split
  · split
    · split
      · rename_i a hfl _ u b hu
        have hmoved : (s.setPins { s.pins with pfail := true }).movesMem u := State.completeAccess_movesMem hfl hu
        exact always_next.2 (State.movesMem.of_eq (s := s) hmoved (by simp))
      · exact always_fault
    · exact always_next.2 (.inl (by simp))
  · exact always_next.2 (.inl rfl)

theorem execMemoryAccessComplete_movesMem (ans : MemAnswer) (o : Order) :
    Always s.movesMem (execMemoryAccessComplete ans o s) := by
  unfold execMemoryAccessComplete
  split
  · split
    · split
      · rename_i a hfl _ u b hu
        exact always_next.2 ((State.completeAccess_movesMem hfl hu).of_eq (by simp))
      · exact always_fault
    · exact always_next.2 (.inl rfl)
  · exact always_next.2 (.inl rfl)

/-- R189: an effect that leaves memory leaves it at the effect point. -/
theorem State.effectPoint_movesMem (c : MgmtCommand) (ps : List Byte) {act : State → State} (h : (act s).mem = s.mem) :
    Always s.movesMem (.next (s.effectPoint c ps act)) :=
  always_next.2 (State.effectPoint_of (P := s.movesMem) (.inl rfl) (.inl rfl) fun _ => .inl h)

theorem execHostReset_movesMem : Always s.movesMem (execHostReset s) := by
  unfold execHostReset
  dsimp only
  split_ifs <;> exact always_next.2 (.inl (by simp))

theorem execHostCycleWithdrawn_movesMem : Always s.movesMem (execHostCycleWithdrawn s) := by
  unfold execHostCycleWithdrawn
  (repeat' split) <;> exact always_next.2 (.inl rfl)

theorem execWriterTakeGroup_movesMem : Always s.movesMem (execWriterTakeGroup s) := by
  unfold execWriterTakeGroup
  (repeat' split) <;> exact always_next.2 (.inl (by simp))

theorem execApplierTakeEntry_movesMem : Always s.movesMem (execApplierTakeEntry s) := by
  unfold execApplierTakeEntry
  (repeat' split) <;> exact always_next.2 (.inl (by simp))

/-- R36: of all the commands only the three that complete the access in flight touch memory. -/
theorem exec_movesMem (c : Instr) : Always s.movesMem (exec c s) := by
  by_cases hc : c.quiet = true
  · exact fun t ht => .inl (exec_quietTo s c hc t ht).mem
  cases c with
  | powerUp t => exact execPowerUp_movesMem s t
  | supplyLoss ans => exact execSupplyLoss_movesMem s ans
  | pfailAssert ans => exact execPfailAssert_movesMem s ans
  | pfailRestart =>
    change Always _ (execPfailRestart s)
    unfold execPfailRestart
    dsimp only
    split <;> exact always_next.2 (.inl (by simp))
  | hostReset => exact execHostReset_movesMem s
  | hostCycle sel rd wr a d =>
    change Always _ (execHostCycle sel rd wr a d s)
    unfold execHostCycle
    split <;> exact always_next.2 (.inl (by simp))
  | hostCycleEnd =>
    change Always _ (execHostCycleEnd s)
    unfold execHostCycleEnd
    split <;> exact always_next.2 (.inl rfl)
  | hostCycleWithdrawn => exact execHostCycleWithdrawn_movesMem s
  | memoryAccessComplete ans o => exact execMemoryAccessComplete_movesMem s ans o
  | writerTakeGroup => exact execWriterTakeGroup_movesMem s
  | writerPlace =>
    change Always _ (execWriterPlace s)
    unfold execWriterPlace
    split <;> exact always_next.2 (.inl (by simp))
  | applierTakeEntry => exact execApplierTakeEntry_movesMem s
  | storeProfile =>
    refine s.effectPoint_movesMem _ _ ?_
    cases s.stage.lowestFree with
    | some i => simp
    | none => rfl
  | loadProfile =>
    refine s.effectPoint_movesMem _ _ ?_
    split <;> simp
  | format | resume => exact s.effectPoint_movesMem _ _ (by simp)
  | discardHeld trigger =>
    cases trigger with
    | none => exact always_next.2 (.inl (by simp))
    | some b =>
      refine s.effectPoint_movesMem _ _ ?_
      cases index8 b with
      | some i => simp
      | none => rfl
  | _ => exact absurd rfl hc

end

/-! ## The Writer's way to MARK (R114) -/

/-- From `s` to `t` the Writer does not enter MARK. -/
def State.sparesMark (s t : State) : Prop :=
  s.writer.phase ≠ .mark → t.writer.phase ≠ .mark

theorem State.sparesMark_of_eq {s t : State} (h : t.writer = s.writer) : s.sparesMark t := fun hs => by rwa [h]

theorem State.sparesMark_of_phase {s t : State} (h : t.writer.phase ≠ .mark) : s.sparesMark t := fun _ => h

theorem Writer.resumed_phase (w : Writer) : w.resumed.phase ≠ .mark := by
  unfold Writer.resumed
  split <;> simp [*]

theorem Writer.resumedLater_phase (w : Writer) : w.resumedLater.phase = w.phase := by
  unfold Writer.resumedLater
  split <;> rfl

/-- R109: the merge goes on, or the Writer goes to PLACE. -/
theorem State.mergeOn_phase (s : State) : s.mergeOn.writer.phase = .place ∨ s.mergeOn.writer = s.writer := by
  unfold State.mergeOn
  dsimp only
  split
  · exact .inl rfl
  · exact .inr rfl

theorem State.mergeOn_sparesMark (s : State) : s.sparesMark s.mergeOn := by
  rcases s.mergeOn_phase with h | h
  · exact State.sparesMark_of_phase (by rw [h]; nofun)
  · exact State.sparesMark_of_eq h

section
variable (s : State)

/-- R113: the last step of a sequence of readbacks, read equal. -/
theorem stepResult_done {prog : List MemStep} {idx : Nat} {b : Byte} (h : stepResult prog idx b = .done) :
    ∃ m, prog[idx]? = some m ∧ idx + 1 = prog.length ∧ (m.verify = true → b = m.byte) := by
  unfold stepResult at h
  split at h
  · cases h
  · rename_i m hm
    split_ifs at h with hv hlt
    have hidx : idx < prog.length := (List.getElem?_eq_some_iff.1 hm).1
    exact ⟨m, hm, by omega, fun hvm => by simpa [hvm] using hv⟩

theorem mem_verifySteps {addr : Nat} {bs : List Byte} {m : MemStep} (h : m ∈ verifySteps addr bs) : m.verify = true := by
  obtain ⟨x, -, rfl⟩ := List.mem_map.1 h
  rfl

theorem State.mem_writerVerifies {m : MemStep} (h : m ∈ s.writerVerifies) : m.verify = true := by
  unfold State.writerVerifies at h
  dsimp only at h
  rcases List.mem_append.1 h with h | h
  · exact mem_verifySteps h
  · split at h
    · exact mem_verifySteps h
    · cases h

theorem State.journalFault_phase (a : Nat) (o : Order) : s.sparesMark (s.journalFault a o) := by
  unfold State.journalFault
  split
  · split
    · exact State.sparesMark_of_phase nofun
    · exact State.sparesMark_of_eq (by simp)
  · exact State.sparesMark_of_eq rfl

theorem State.mergeTake_sparesMark (b : Byte) : s.sparesMark (s.mergeTake b) := by
  unfold State.mergeTake
  split
  · exact fun hs => State.mergeOn_sparesMark (s.setStage _) hs
  · exact State.sparesMark_of_eq rfl

theorem State.entryLogged_sparesMark : s.sparesMark s.entryLogged := by
  unfold State.entryLogged
  split
  · exact State.sparesMark_of_phase nofun
  · exact State.sparesMark_of_eq rfl

/-- R114: a step of the Writer's sequences takes it into MARK only as the last of VERIFY. -/
theorem State.writerAdvance_mark {r : StepResult} {o : Order} (hs : s.writer.phase ≠ .mark)
    (ht : (s.writerAdvance r o).writer.phase = .mark) : r = .done ∧ s.writer.phase = .verify := by
  unfold State.writerAdvance at ht
  split at ht
  · exact absurd ht (State.journalFault_phase s _ o hs)
  · exact absurd ht hs
  · cases ht
  · exact ⟨rfl, ‹_›⟩
  · exact absurd ht (State.entryLogged_sparesMark s hs)
  · exact absurd ht hs

/-- R114: the Writer's own access takes it into MARK only as the last, equal readback of VERIFY. -/
theorem State.writerTake_mark {b : Byte} {o : Order} (hs : s.writer.phase ≠ .mark)
    (ht : (s.writerTake b o).writer.phase = .mark) :
    s.writer.phase = .verify ∧ ∃ m, s.writerVerifies[s.writer.idx]? = some m
      ∧ s.writer.idx + 1 = s.writerVerifies.length ∧ b = m.byte := by
  have step : (if s.writer.resuming then s.writerResume (stepResult s.writerProgram s.writer.idx b) o
        else s.writerAdvance (stepResult s.writerProgram s.writer.idx b) o).writer.phase = .mark →
      s.writer.phase = .verify ∧ ∃ m, s.writerVerifies[s.writer.idx]? = some m
        ∧ s.writer.idx + 1 = s.writerVerifies.length ∧ b = m.byte := by
    intro h
    split at h
    · exact absurd h (Writer.resumed_phase _)
    · obtain ⟨hdone, hv⟩ := State.writerAdvance_mark s hs h
      rw [State.writerProgram, hv] at hdone
      obtain ⟨m, hm, hlast, hbyte⟩ := stepResult_done hdone
      exact ⟨hv, m, hm, hlast, hbyte (s.mem_writerVerifies (List.mem_of_getElem? hm))⟩
  unfold State.writerTake at ht
  split at ht
  · split at ht
    · exact absurd ht hs
    · exact absurd ht hs
  · exact absurd ht (State.mergeTake_sparesMark s b hs)
  · exact absurd ht hs
  all_goals exact step ht

/-! ## The other commands leave MARK alone -/

theorem State.deliver_writer {w : AccessOwner} (hw : w ≠ .requester .writer) (b : Byte) (o : Order) :
    (s.deliver w b o).writer = s.writer := by
  unfold State.deliver
  split
  · simp
  · exact absurd rfl hw
  · simp
  · simp

theorem State.effectPoint_sparesMark (c : MgmtCommand) (ps : List Byte) {act : State → State}
    (h : s.sparesMark (act s)) : Always s.sparesMark (.next (s.effectPoint c ps act)) :=
  always_next.2 (State.effectPoint_of (P := s.sparesMark) (State.sparesMark_of_eq rfl) (State.sparesMark_of_eq rfl)
    fun _ => h)

/-- R114, R127: the Writer at RESUME. -/
theorem State.resumeWriter_phase : s.sparesMark s.resumeWriter := by
  intro hs
  unfold State.resumeWriter
  dsimp only
  split
  · exact fun h => hs ((Writer.resumedLater_phase { s.writer with retry := 0 }).symm.trans h)
  · exact Writer.resumed_phase _

theorem State.resumeReady_phase : s.resumeReady.writer.phase = s.resumeWriter.writer.phase := by
  unfold State.resumeReady
  dsimp only
  split <;> simp [State.beginClearing]

theorem State.resumeEngines_sparesMark : s.sparesMark s.resumeEngines := by
  intro hs
  have hready : s.resumeReady.writer.phase ≠ .mark := by
    rw [State.resumeReady_phase]
    exact State.resumeWriter_phase s hs
  rw [State.resumeEngines_eq]
  split
  · exact State.mergeOn_sparesMark _ hready
  · exact hready

theorem execWriterTakeGroup_sparesMark : Always s.sparesMark (execWriterTakeGroup s) := by
  unfold execWriterTakeGroup
  split
  · split
    · refine always_next.2 (State.sparesMark_of_phase ?_)
      rw [show ∀ u : State, u.chooseThenHeld.writer = u.writer from fun u => by simp]
      exact State.mergeOn_sparesMark _ nofun
    · exact always_next.2 (State.sparesMark_of_eq rfl)
  · exact always_next.2 (State.sparesMark_of_eq rfl)

theorem execWriterPlace_sparesMark : Always s.sparesMark (execWriterPlace s) := by
  unfold execWriterPlace
  split
  · refine always_next.2 fun hs => ?_
    rw [show ∀ u : State, u.chooseThenHeld.writer = u.writer from fun u => by simp]
    unfold State.placeEntry
    split
    · nofun
    · exact hs
  · exact always_next.2 (State.sparesMark_of_eq rfl)

theorem execSupplyLoss_sparesMark (ans : MemAnswer) : Always s.sparesMark (execSupplyLoss ans s) := by
  unfold execSupplyLoss
  split
  · split
    · split
      · exact always_next.2 (State.sparesMark_of_phase nofun)
      · exact always_fault
    · exact always_next.2 (State.sparesMark_of_phase nofun)
  · exact always_next.2 (State.sparesMark_of_eq rfl)

theorem execPowerUp_sparesMark (t : Straps) : Always s.sparesMark (execPowerUp t s) := by
  unfold execPowerUp
  split
  · exact always_next.2 (State.sparesMark_of_phase (by simp [State.startUp, State.clearVolatile, Writer.idle]))
  · split
    · exact always_next.2 (State.sparesMark_of_phase (by simp [State.clearVolatile, Writer.idle]))
    · exact always_next.2 (State.sparesMark_of_eq rfl)

theorem execPfailAssert_sparesMark (ans : MemAnswer) : Always s.sparesMark (execPfailAssert ans s) := by
  have hstop : ∀ u : State, u.writer = s.writer → s.sparesMark u.stopOnPfail := fun u hu => by
    unfold State.stopOnPfail
    split
    · exact State.sparesMark_of_phase nofun
    · exact State.sparesMark_of_eq hu
  unfold execPfailAssert
  dsimp only
  split
  · split
    · split
      · rename_i hc
        refine always_next.2 (hstop _ ?_)
        obtain ⟨-, ⟨-, rfl⟩ | ⟨_, _, -, rfl⟩⟩ := State.completeAccess_cases hc <;> rfl
      · exact always_fault
    · exact always_next.2 (hstop _ rfl)
  · exact always_next.2 (State.sparesMark_of_eq rfl)

/-- R114: only a completed access takes the Writer into MARK. -/
theorem exec_sparesMark {c : Instr} (hm : ∀ ans o, c ≠ .memoryAccessComplete ans o) : Always s.sparesMark (exec c s) := by
  by_cases hc : c.quiet = true
  · exact fun t ht => State.sparesMark_of_eq (exec_quietTo s c hc t ht).writer
  cases c with
  | powerUp t => exact execPowerUp_sparesMark s t
  | supplyLoss ans => exact execSupplyLoss_sparesMark s ans
  | pfailAssert ans => exact execPfailAssert_sparesMark s ans
  | pfailRestart =>
    change Always _ (execPfailRestart s)
    unfold execPfailRestart
    dsimp only
    split
    · exact always_next.2 (State.sparesMark_of_phase (by simp [State.restart, Writer.idle]))
    · exact always_next.2 (State.sparesMark_of_eq rfl)
  | hostReset =>
    change Always _ (execHostReset s)
    unfold execHostReset
    dsimp only
    split_ifs <;> exact always_next.2 (State.sparesMark_of_eq (by simp))
  | hostCycle sel rd wr a d =>
    change Always _ (execHostCycle sel rd wr a d s)
    unfold execHostCycle
    split <;> exact always_next.2 (State.sparesMark_of_eq (by simp))
  | hostCycleEnd =>
    change Always _ (execHostCycleEnd s)
    unfold execHostCycleEnd
    split <;> exact always_next.2 (State.sparesMark_of_eq rfl)
  | hostCycleWithdrawn =>
    change Always _ (execHostCycleWithdrawn s)
    unfold execHostCycleWithdrawn
    (repeat' split) <;> exact always_next.2 (State.sparesMark_of_eq rfl)
  | memoryAccessComplete ans o => exact absurd rfl (hm ans o)
  | writerTakeGroup => exact execWriterTakeGroup_sparesMark s
  | writerPlace => exact execWriterPlace_sparesMark s
  | applierTakeEntry =>
    change Always _ (execApplierTakeEntry s)
    unfold execApplierTakeEntry
    (repeat' split) <;> exact always_next.2 (State.sparesMark_of_eq (by simp))
  | storeProfile =>
    refine s.effectPoint_sparesMark _ _ (State.sparesMark_of_eq ?_)
    cases s.stage.lowestFree with
    | some i => simp
    | none => rfl
  | loadProfile =>
    refine s.effectPoint_sparesMark _ _ (State.sparesMark_of_eq ?_)
    split <;> simp
  | format => exact s.effectPoint_sparesMark _ _ (State.sparesMark_of_eq (by simp))
  | resume =>
    refine s.effectPoint_sparesMark _ _ fun hs => ?_
    simpa using State.resumeEngines_sparesMark s hs
  | discardHeld trigger =>
    cases trigger with
    | none => exact always_next.2 (State.sparesMark_of_eq (by simp))
    | some b =>
      refine s.effectPoint_sparesMark _ _ (State.sparesMark_of_eq ?_)
      cases index8 b with
      | some i => simp
      | none => rfl
  | _ => exact absurd rfl hc

end

/-! ## Where the steps write (R83, R101, R112) -/

theorem mem_writeSteps {addr : Nat} {bs : List Byte} {m : MemStep} (h : m ∈ writeSteps addr bs) :
    addr ≤ m.addr ∧ m.addr < addr + bs.length := by
  obtain ⟨x, hx, rfl⟩ := List.mem_map.1 h
  have := List.mem_zipIdx hx
  exact ⟨this.1, this.2.1⟩

theorem mem_verifySteps_addr {addr : Nat} {bs : List Byte} {m : MemStep} (h : m ∈ verifySteps addr bs) :
    addr ≤ m.addr ∧ m.addr < addr + bs.length := by
  obtain ⟨x, hx, rfl⟩ := List.mem_map.1 h
  have := List.mem_zipIdx hx
  exact ⟨this.1, this.2.1⟩

theorem mem_copySteps {addr : Nat} {bs : List Byte} {m : MemStep} (h : m ∈ copySteps addr bs) :
    addr ≤ m.addr ∧ m.addr < addr + bs.length :=
  (List.mem_append.1 h).elim mem_writeSteps mem_verifySteps_addr

/-- R112 to R114: every step of the Writer lies in the journal. -/
theorem State.mem_writerProgram {s : State} {m : MemStep} (h : m ∈ s.writerProgram) : s.base + 128 ≤ m.addr := by
  have hjournal : ∀ {o n : Nat}, s.journalAddr o ≤ n → s.base + 128 ≤ n := fun {o n} h =>
    (Nat.le_add_right _ o).trans h
  unfold State.writerProgram at h
  split at h
  · unfold State.writerWrites at h
    simp only [List.mem_append] at h
    rcases h with (h | h) | h
    · exact hjournal (mem_writeSteps h).1
    · split at h
      · exact hjournal (mem_writeSteps h).1
      · cases h
    · exact hjournal (mem_writeSteps h).1
  · unfold State.writerVerifies at h
    simp only [List.mem_append] at h
    rcases h with h | h
    · exact hjournal (mem_verifySteps_addr h).1
    · split at h
      · exact hjournal (mem_verifySteps_addr h).1
      · cases h
  · exact hjournal (mem_copySteps h).1
  all_goals cases h

/-- R121: every step of an anchor write lies in the sixteen bytes of its copy. -/
theorem mem_anchorSteps {addr head : Nat} {g n : Word16} {m : MemStep} (h : m ∈ anchorSteps addr g head n) :
    addr ≤ m.addr ∧ m.addr < addr + 16 := by
  have hlen : (anchorBody g head n).length = 15 := rfl
  unfold anchorSteps at h
  simp only [List.mem_append] at h
  rcases h with (h | h) | h
  · have := mem_writeSteps h
    rwa [List.length_cons, hlen] at this
  · have := mem_verifySteps_addr h
    rw [hlen] at this
    omega
  · have := mem_copySteps h
    rw [List.length_singleton] at this
    omega

end Sys2Proof.Machine

open Sys2Proof Sys2Proof.Machine

/-- Settles O9: each command leaves memory, or the write in flight leaves its byte. -/
theorem memoryChangesOnlyByWriteInFlight : Obligations.MemoryChangesOnlyByWriteInFlight :=
  ⟨fun c s t h => (exec_movesMem s c t h).memoryKept, fun _ _ hstep => step_keeps (P := fun s => Memory.wf s.mem = true)
    (fun hq h => by rwa [hq.mem]) (fun c _ h t ht => (exec_movesMem _ c t ht).wf h) hstep⟩

/-- Settles O10: every other command, and every other access, leaves the Writer out of MARK. -/
theorem markOnlyAfterVerify : Obligations.MarkOnlyAfterVerify := by
  intro c s t h hs ht
  by_cases hm : ∀ ans o, c ≠ .memoryAccessComplete ans o
  · exact absurd ht (exec_sparesMark s hm t h hs)
  · push Not at hm
    obtain ⟨ans, o, rfl⟩ := hm
    change execMemoryAccessComplete ans o s = _ at h
    unfold execMemoryAccessComplete at h
    split at h
    · split at h
      · rename_i a hfl
        split at h
        · rename_i u b hu
          cases h
          have hsame : u.writer = s.writer ∧ u.writerVerifies = s.writerVerifies := by
            obtain ⟨-, ⟨-, rfl⟩ | ⟨_, _, -, rfl⟩⟩ := State.completeAccess_cases hu <;> exact ⟨rfl, rfl⟩
          obtain ⟨hw, hv⟩ := hsame
          rw [show ∀ v : State, (v.afterAccess o).writer = v.writer from fun v => by simp] at ht
          by_cases hown : a.owner = .requester .writer
          · rw [hown] at ht
            obtain ⟨hphase, m, hm, hlast, hbyte⟩ := State.writerTake_mark u (by rwa [hw]) ht
            rw [hw] at hphase
            rw [hw, hv] at hm hlast
            exact ⟨ans, o, a, u, b, m, rfl, hfl, hown, hphase, hu, hm, hlast, hbyte⟩
          · rw [State.deliver_writer u hown, hw] at ht
            exact absurd ht hs
        · cases h
      · cases h
        exact absurd ht hs
    · cases h
      exact absurd ht hs

/-- Settles O11: the Writer's steps lie in the journal, and those of an anchor write in the copy that is not in use. -/
theorem writerSparesHomesAndAnchorWriteSparesCopyInUse : Obligations.WriterSparesHomesAndAnchorWriteSparesCopyInUse := by
  refine ⟨fun s a b hw hop => ?_, fun s c p l next m hc hm k hk => ?_⟩
  · unfold State.writerWants at hw
    split at hw
    · split at hw
      · split at hw
        · cases hw
          exact Nat.le_add_right _ _
        · cases hw
      · obtain ⟨x, -, rfl⟩ := Option.map_eq_some_iff.1 hw
        cases hop
      · cases hw
      all_goals
        obtain ⟨m, hm, rfl⟩ := Option.map_eq_some_iff.1 hw
        exact State.mem_writerProgram (List.mem_of_getElem? hm)
    · cases hw
  · have hnext : s.journal.nextCopy = c.other := by rw [Journal.nextCopy, hc]
    have hrange := mem_anchorSteps hm
    rw [hnext] at hrange
    cases c
    all_goals
      simp only [AnchorCopy.other, anchorBase] at hrange ⊢
      omega
end

section
/-! SUPPORT. The layouts of chapter 12 read back: bytes of a number, region entries, anchor copies, journal entries and the
profile image (R84, R89, R90, R99, R159, R207, R208, R209). -/

namespace Sys2Proof.Machine

/-! ## Byte order (R207) -/

/-- R207: a 16-bit value reads back from its two bytes. -/
@[simp] theorem word16_bytes (w : Word16) : word16 (highByte w) (lowByte w) = w := by
  apply BitVec.eq_of_toNat_eq
  simp only [word16, highByte, lowByte, BitVec.toNat_append, BitVec.extractLsb'_toNat]
  have := w.isLt
  rw [Nat.shiftLeft_eq, Nat.shiftRight_eq_div_pow, Nat.shiftRight_eq_div_pow, Nat.mul_comm,
    ← Nat.two_pow_add_eq_or_of_lt (Nat.mod_lt _ (by decide))]
  omega

/-- R207: a 24-bit number reads back from its three bytes. -/
theorem nat24_bytes {n : Nat} (h : n < 2 ^ 24) :
    nat24 (BitVec.ofNat 8 (n / 65536)) (BitVec.ofNat 8 (n / 256)) (BitVec.ofNat 8 n) = n := by
  simp only [nat24, BitVec.toNat_ofNat]
  omega

/-! ## Region entries (12.4, R208) -/

/-- 12.4: the packed first byte of an entry, VALID, CLASS and the top of BASE. -/
theorem packed_base (v : Bool) (c : RegionClass) (h : Fin 8) :
    let b : Byte := BitVec.ofNat 8 ((if v then 128 else 0) + c.code * 32 + h.val)
    b.getLsbD 7 = v ∧ b.extractLsb' 5 2 = BitVec.ofNat 2 c.code ∧ b &&& 0x1F = BitVec.ofNat 8 h.val := by
  cases v <;> cases c <;> revert h <;> decide

/-- 12.4: the packed fourth byte of an entry, FOLLOWS and the top of LIMIT. -/
theorem packed_limit (f : Option (Fin 8)) (h : Fin 8) :
    let b : Byte := BitVec.ofNat 8 (followsCode f * 16 + h.val)
    b.extractLsb' 4 4 = BitVec.ofNat 4 (followsCode f) ∧ b &&& 0x0F = BitVec.ofNat 8 h.val := by
  cases f with
  | none => revert h; decide
  | some i => revert i h; decide

theorem followsOfCode_code (f : Option (Fin 8)) : followsOfCode (BitVec.ofNat 4 (followsCode f)) = f := by
  cases f with
  | none => rfl
  | some i => revert i; decide

theorem regionClassOfCode_code (c : RegionClass) : regionClassOfCode (BitVec.ofNat 2 c.code) = some c := by
  cases c <;> rfl

/-- The eight bytes of an entry, as PUT REGION takes them. -/
def RegionEntry.bytes (e : RegionEntry) : EntryBytes :=
  entryBytesAt (encodeEntry e) 0

theorem Addr.top_lt (a : Addr) : a.toNat / 65536 < 8 := by
  have := a.isLt
  omega

theorem toAddr_toNat (a : Addr) : toAddr a.toNat = a := by
  simp [toAddr]

/-- 12.4: the fields of an entry read back from its bytes. -/
theorem rawEntry_bytes (e : RegionEntry) :
    rawEntry e.bytes =
      { valid := e.valid, cls := BitVec.ofNat 2 e.cls.code, base := e.base.toNat, limit := e.limit.toNat,
        rsize := e.rsize % 256, commit := e.commit % 256, follows := BitVec.ofNat 4 (followsCode e.follows) } := by
  obtain ⟨hv, hc, hb⟩ := packed_base e.valid e.cls ⟨e.base.toNat / 65536, Addr.top_lt _⟩
  obtain ⟨hf, hl⟩ := packed_limit e.follows ⟨e.limit.toNat / 65536, Addr.top_lt _⟩
  have hbase := nat24_bytes (n := e.base.toNat) (by have := e.base.isLt; omega)
  have hlimit := nat24_bytes (n := e.limit.toNat) (by have := e.limit.isLt; omega)
  dsimp only at hv hc hb hf hl
  simp only [rawEntry, RegionEntry.bytes, entryBytesAt, encodeEntry, byteAt, Nat.zero_add, List.getD_cons_zero,
    List.getD_cons_succ, hv, hc, hb, hf, hl, hbase, hlimit, BitVec.toNat_ofNat]

/-- R1, R16, R208: an entry in form is stored again as it stands. -/
theorem RegionEntry.normal.reads_back {e : RegionEntry} {base : Nat} (h : e.normal base) :
    (rawEntry e.bytes).stored = e := by
  have hraw := rawEntry_bytes e
  unfold RegionEntry.normal at h
  split at h
  · rename_i hv
    obtain ⟨-, -, hrec, hplain⟩ := h
    have hvalid : (rawEntry e.bytes).valid = true := by rw [hraw]; exact hv
    have hcls : regionClassOfCode (rawEntry e.bytes).cls = some e.cls := by rw [hraw]; exact regionClassOfCode_code _
    by_cases hr : e.cls = .record
    · obtain ⟨-, hsize, -, hcommit⟩ := hrec hr
      rw [hr] at hcls
      rw [RawEntry.stored_record hvalid hcls, hraw]
      cases e
      simp only at hv hr hsize hcommit
      subst hv hr
      simp only [toAddr_toNat, followsOfCode_code]
      congr 1 <;> omega
    · obtain ⟨hsize, hcommit, hfol⟩ := hplain hr
      rw [RawEntry.stored_plain hvalid hcls hr, hraw]
      cases e
      simp only at hv hsize hcommit hfol
      subst hv hsize hcommit hfol
      simp only [toAddr_toNat]
  · rw [h]
    rfl

/-! ## Anchor copies (12.2, R99) -/

theorem journalSize_le (t : Straps) : journalSize t ≤ 16384 := by
  have hj : 2 ^ t.jsz.toNat ≤ 8 := Nat.pow_le_pow_right (n := 2) (by decide) (Nat.le_of_lt_succ t.jsz.isLt)
  unfold journalSize
  omega

/-- R99: the sixteen bytes of a written copy read back. -/
theorem readAnchor_anchorBody (t : Straps) (g n : Word16) {h : Nat} (hh : h ≤ journalSize t) :
    readAnchor t (0x4C :: anchorBody g h n) = some { generation := g, head := h, next := n } := by
  have hhead : (BitVec.ofNat 16 h).toNat = h := by
    have := journalSize_le t
    exact Nat.mod_eq_of_lt (by omega)
  have hg : wordAt (0x4C :: anchorBody g h n) 1 = g := word16_bytes g
  have hp : wordAt (0x4C :: anchorBody g h n) 3 = BitVec.ofNat 16 h := word16_bytes _
  have hn : wordAt (0x4C :: anchorBody g h n) 5 = n := word16_bytes n
  have hcrc : wordAt (0x4C :: anchorBody g h n) 7 = crc (anchorCovered g h n) := word16_bytes _
  rw [readAnchor, hg, hp, hn, hcrc, hhead]
  exact if_pos ⟨rfl, rfl, hh⟩

/-! ## Journal entries (12.3) -/

theorem segmentBytes_length (home : Nat) (data : List Byte) : (segmentBytes home data).length = 4 + data.length := by
  simp [segmentBytes, bytes24]
  omega

/-- R84: the segments of an entry as written. -/
def segmentsBytes (segs : List Segment) : List Byte :=
  segs.flatMap fun g => segmentBytes g.home g.data

/-- R85: their length. -/
theorem segmentsBytes_length (segs : List Segment) :
    8 + (segmentsBytes segs).length = entryLength (segs.map fun g => g.data.length) := by
  simp [segmentsBytes, entryLength, List.length_flatMap, segmentBytes_length, Function.comp_def]

/-- R90: a walk through the segments as written gives them back. -/
theorem walkSegments_segmentsBytes {segs : List Segment}
    (h : ∀ g ∈ segs, 1 ≤ g.data.length ∧ g.data.length ≤ 128 ∧ g.home < 2 ^ 24) :
    walkSegments segs.length (segmentsBytes segs) = some segs := by
  induction segs with
  | nil => rfl
  | cons g segs ih =>
    obtain ⟨h1, h2, hhome⟩ := h g (List.mem_cons_self ..)
    have hlen : (BitVec.ofNat 8 (g.data.length - 1)).toNat = g.data.length - 1 := Nat.mod_eq_of_lt (by omega)
    have hsucc : g.data.length - 1 + 1 = g.data.length := by omega
    change walkSegments (segs.length + 1) (_ :: _ :: _ :: _ :: (g.data ++ segmentsBytes segs)) = _
    rw [walkSegments, hlen, hsucc, if_pos ⟨by omega, by simp⟩, List.drop_left, List.take_left, nat24_bytes hhome,
      ih fun x hx => h x (List.mem_cons_of_mem _ hx)]
    rfl

/-! ## The profile image (12.4, R159) -/

/-- 12.4: the eight entries in order. -/
theorem entries_toList (entries : Vector RegionEntry 8) :
    entries.toList = [entries[0], entries[1], entries[2], entries[3], entries[4], entries[5], entries[6], entries[7]] := by
  refine List.ext_getElem (by simp) fun i h _ => ?_
  rw [Vector.length_toList] at h
  interval_cases i <;> rfl

/-- 12.4, R162: the check value of a profile image is that of its covered bytes. -/
theorem profileGood_image (count mask : Word16) (d : DefaultClass) (entries : Vector RegionEntry 8) :
    profileGood (profileImage count d mask entries) = true :=
  decide_eq_true ⟨rfl, (word16_bytes _).symm⟩

/-- 12.4: entry `i` stands at byte 8 + 8 * i. -/
theorem entryBytesAt_image (count mask : Word16) (d : DefaultClass) (entries : Vector RegionEntry 8) (i : Fin 8) :
    entryBytesAt (profileImage count d mask entries) (8 + 8 * i.val) = entries[i].bytes := by
  rw [profileImage, entries_toList]
  fin_cases i <;> rfl

theorem profileImage_length (count mask : Word16) (d : DefaultClass) (entries : Vector RegionEntry 8) :
    (profileImage count d mask entries).length = 72 := by
  rw [profileImage, entries_toList]
  rfl

end Sys2Proof.Machine

open Sys2Proof Sys2Proof.Machine

/-- Settles O12: the two packed bytes are checked for every class, code and top of an address. -/
theorem regionEntryReadsBack : Obligations.RegionEntryReadsBack :=
  fun _ _ h => ⟨rfl, h.reads_back⟩

/-- Settles O13: the fields read back one by one, and the choice goes by the distance of the generations. -/
theorem anchorCopiesReadBackAndChoose : Obligations.AnchorCopiesReadBackAndChoose := by
  refine ⟨fun t g n h hh => ⟨rfl, readAnchor_anchorBody t g n hh⟩, fun t b bs hb => ?_, fun a b =>
    ⟨rfl, rfl, rfl, fun h => ?_, fun h => ?_⟩⟩
  · exact if_neg fun ⟨hmark, _⟩ => hb hmark
  · exact if_pos (decide_eq_true h)
  · exact if_neg (by simpa [newer] using h)

/-- Settles O14: the header fields read back, and the walk takes the segments off one by one. -/
theorem writtenEntryIsWellFormed : Obligations.WrittenEntryIsWellFormed := by
  intro t mark seq segs p h1 h4 hsegs hp body l
  have hbound : l ≤ 536 := by
    have := entryLength_bounds (lengths := segs.map fun g => g.data.length) (lo := 0) (hi := 128) (by
      intro n hn
      obtain ⟨g, hg, rfl⟩ := List.mem_map.1 hn
      exact ⟨Nat.zero_le _, (hsegs g hg).2.1⟩)
    rw [List.length_map] at this
    omega
  have hlen : (BitVec.ofNat 16 l).toNat = l := Nat.mod_eq_of_lt (by omega)
  have hbody : 8 + body.length = l := segmentsBytes_length segs
  set bs := mark :: entryTail seq segs.length l (entryCheck seq segs.length l body) body with hbs
  have hseq : wordAt bs 1 = seq := word16_bytes _
  have hcount : (byteAt bs 3).toNat = segs.length := Nat.mod_eq_of_lt (by omega)
  have hl : headerLength bs = l := (congrArg BitVec.toNat (word16_bytes _)).trans hlen
  have hcheck : wordAt bs 6 = crc (coveredBytes bs) := word16_bytes _
  have hlength : bs.length = l := by
    rw [← hbody, Nat.add_comm]
    rfl
  have hdrop : bs.drop 8 = body := rfl
  have hwalk : walkSegments segs.length body = some segs :=
    walkSegments_segmentsBytes fun g hg => ⟨(hsegs g hg).1, (hsegs g hg).2.1, (hsegs g hg).2.2.1⟩
  have hrange : segs.all (segmentInRange t) = true := List.all_eq_true.2 fun g hg => (hsegs g hg).2.2.2
  rw [wellFormedEntry, hseq, hcount, hl, hcheck, hlength, hdrop, hwalk, if_pos ⟨rfl, h1, h4, rfl, hp, rfl⟩]
  exact if_pos hrange

/-- Settles O15: the entries stand eight bytes apart, and each reads back by itself. -/
theorem profileImageReadsBack : Obligations.ProfileImageReadsBack := by
  intro count mask d entries base h bs
  refine ⟨profileImage_length .., profileGood_image .., word16_bytes _, ?_, word16_bytes _, fun i => ?_⟩
  · cases d <;> rfl
  · rw [entryBytesAt_image]
    exact (h i).reads_back
end

section
/-! SUPPORT. The supply, PFAIL# and SRST#: the cleared state, the first access of the system's requester, an access that
completes, and the slots that SRST# frees. -/

namespace Sys2Proof.Machine

/-! ## The port's next user -/

/-- A requester that wants nothing is not granted. -/
theorem State.grantAmong_of_quiet {s : State} {rs : List Requester} (h : ∀ r, s.wants r = none) : s.grantAmong rs = s := by
  have hnone : s.nextGrant rs = none := List.findSome?_eq_none_iff.2 fun r _ => by rw [h r]; rfl
  simp [State.grantAmong, hnone]

/-- Outside RUNNING the engines ask for nothing. -/
theorem State.wants_of_not_running {s : State} (ho : s.ctrl.opState ≠ .running) (hh : s.host.phase ≠ .waiting) :
    ∀ r, s.wants r = none
  | .host => if_neg hh
  | .writer => if_neg ho
  | .applier => if_neg ho

/-- The states in which the system's requester asks for something. -/
theorem State.systemWants_opState {s : State} {a : Access} (hw : s.systemWants = some a) :
    s.ctrl.opState ≠ .running ∧ s.ctrl.opState ≠ .frozen := by
  constructor <;> intro h <;> simp [State.systemWants, h] at hw

/-- In a free port, with no host cycle waiting, recovery, the loader or the format is granted what it asks for. -/
theorem State.grant_of_systemWants {s : State} {a : Access} (hs : s.supply = true) (hp : s.port.inFlight = none)
    (hh : s.host.phase ≠ .waiting) (hw : s.systemWants = some a) :
    s.grant = s.setPort { s.port with inFlight := some a } := by
  obtain ⟨hr, hf⟩ := State.systemWants_opState hw
  have hamong := State.grantAmong_of_quiet (rs := Requester.all) (State.wants_of_not_running hr hh)
  simp [State.grant, hs, hf, hamong, State.grantSystem, hp, hw]

/-- At the start of recovery the first byte of anchor copy A is asked for. -/
theorem State.beginRecovery_grant {s : State} (c : StartCause) (hs : s.supply = true) (hp : s.port.inFlight = none)
    (hh : s.host.phase ≠ .waiting) :
    (s.beginRecovery c).grant = (s.beginRecovery c).setPort
      { s.port with inFlight := some { owner := .system, addr := s.base, op := .read } } :=
  State.grant_of_systemWants (s := s.beginRecovery c) hs hp hh (by
    simp [State.systemWants, State.recoveryWants, State.beginRecovery, Recovery.begin, Recovery.idle, State.enterState,
      State.base])

/-! ## The cleared state -/

/-- Every slot of a cleared store, with the IMAGE that it keeps. -/
theorem Staging.cleared_slot_image (slots : Vector Slot 8) (i : Fin 8) :
    (Staging.cleared slots).slots[i] = Slot.cleared (Staging.cleared slots).slots[i].image := by
  rw [Staging.cleared_slot]; rfl

/-- R138: what it takes for the volatile state to be cleared. -/
theorem State.volatileCleared_of {s : State} {slots : Vector Slot 8} (hg : s.stage = Staging.cleared slots)
    (ht : s.table = RegionTable.starting s.ctrl.straps) (hj : s.journal = Journal.cleared) (hw : s.writer = Writer.idle)
    (ha : s.applier = Applier.idle) (hl : s.port.lastGranted = .applier) (he : s.events = EventBlock.cleared)
    (hr : s.ctrl.report = RecoveryReport.cleared s.ctrl.straps) (hc : s.ctrl.cause = .noCause)
    (hn : s.ctrl.lastCount = 0) : s.volatileCleared := by
  have hslots : ∀ i : Fin 8, s.slot i = Slot.cleared (s.slot i).image := fun i => by
    rw [State.slot, hg]; exact Staging.cleared_slot_image slots i
  have hheld : ∀ t : Fin 8, s.stage.held[t] = [] := fun t => by rw [hg]; simp [Staging.cleared]
  have hent : ∀ i : Fin 8, s.table.entries[i] = RegionEntry.invalid := fun i => by
    rw [ht]; exact RegionTable.noEntries_get i
  refine ⟨hslots, ?_, ?_, hheld, ?_, hent, ?_, ?_, ?_⟩
  · rw [hg]; rfl
  · rw [hg]; rfl
  · rw [hg]; rfl
  · rw [ht]; rfl
  · rw [ht]; rfl
  · rw [hj, hw, ha, hl, he, hr]
    exact ⟨rfl, rfl, rfl, rfl, rfl, rfl, rfl, rfl, rfl, rfl, rfl, rfl, rfl, rfl, rfl, rfl, rfl, rfl, hc, hn⟩

/-! ## STARTING ends -/

/-- With PFAIL# asserted the part freezes. -/
theorem State.endStarting_of_pfail {s : State} (h : s.pins.pfail = true) : s.endStarting = s.freeze :=
  if_pos h

/-- Without it recovery begins with its first read in flight. -/
theorem State.endStarting_of_not_pfail {s : State} (h : s.pins.pfail = false) (hs : s.supply = true)
    (hp : s.port.inFlight = none) (hh : s.host.phase ≠ .waiting) :
    s.endStarting = (s.beginRecovery .powerup).setPort
      { s.port with inFlight := some { owner := .system, addr := s.base, op := .read } } := by
  rw [State.endStarting, if_neg (by simp [h]), State.beginRecovery_grant _ hs hp hh]

/-- What POWER_UP makes of a part without supply, and of one in STARTING. -/
theorem execPowerUp_of_unpowered {s : State} (t : Straps) (h : s.supply = false) :
    execPowerUp t s = .next ((s.setSupply true).startUp t).endStarting := by
  simp [execPowerUp, h]

theorem execPowerUp_of_starting {s : State} (t : Straps) (h : s.supply = true) (ho : s.ctrl.opState = .starting) :
    execPowerUp t s = .next ((s.clearVolatile t).setHost s.host.afterStarting).endStarting := by
  simp [execPowerUp, h, ho]

/-- R23: the host port after STARTING: a held cycle or IDLE. -/
theorem HostPort.afterStarting_of_holding {h : HostPort} (hp : h.phase = .holding) : h.afterStarting = h :=
  if_pos hp

theorem HostPort.afterStarting_of_not_holding {h : HostPort} (hp : h.phase ≠ .holding) : h.afterStarting = HostPort.idle :=
  if_neg hp

theorem HostPort.afterStarting_not_waiting (h : HostPort) : h.afterStarting.phase ≠ .waiting := by
  by_cases hp : h.phase = .holding
  · rw [HostPort.afterStarting_of_holding hp, hp]; decide
  · rw [HostPort.afterStarting_of_not_holding hp]; decide

/-! ## An access that completes -/

/-- An access below M completes. -/
theorem State.completeAccess_some {s : State} {a : Access} (h : a.addr < memorySize s.ctrl.straps) (ans : MemAnswer) :
    ∃ t b, s.completeAccess a ans = some (t, b) := by
  unfold State.completeAccess
  rw [if_pos h]
  dsimp only
  split <;> exact ⟨_, _, rfl⟩

/-- With a good answer the port is free, a write has left its byte, and a read gives the byte that memory holds. -/
theorem State.completeAccess_ok {s : State} {a : Access} (h : a.addr < memorySize s.ctrl.straps) :
    s.completeAccess a .ok = some (s.accessDone a, s.accessByte a) := by
  unfold State.completeAccess State.accessDone State.accessByte
  rw [if_pos h]
  dsimp only
  cases a.op <;> rfl

/-! ## The supply's changes -/

/-- What a clearing sets. -/
@[simp] theorem State.clearVolatile_sets (s : State) (t : Straps) :
    (s.clearVolatile t).ctrl = Controller.starting t ∧ (s.clearVolatile t).table = RegionTable.starting t
      ∧ (s.clearVolatile t).stage = Staging.cleared s.stage.slots ∧ (s.clearVolatile t).journal = Journal.cleared
      ∧ (s.clearVolatile t).writer = Writer.idle ∧ (s.clearVolatile t).applier = Applier.idle
      ∧ (s.clearVolatile t).port = MemPort.cleared ∧ (s.clearVolatile t).events = EventBlock.cleared := by
  simp [State.clearVolatile]

/-- R138: a clearing leaves the volatile state cleared. -/
theorem State.clearVolatile_cleared (s : State) (t : Straps) : (s.clearVolatile t).volatileCleared := by
  refine State.volatileCleared_of (slots := s.stage.slots) ?_ ?_ ?_ ?_ ?_ ?_ ?_ ?_ ?_ ?_ <;>
    simp [MemPort.cleared, Controller.starting]

/-- The fields that the cleared state is about. -/
theorem State.volatileCleared.of_eq {s t : State} (h : s.volatileCleared) (hg : t.stage = s.stage) (ht : t.table = s.table)
    (hj : t.journal = s.journal) (hw : t.writer = s.writer) (ha : t.applier = s.applier)
    (hl : t.port.lastGranted = s.port.lastGranted) (he : t.events = s.events)
    (hc : t.ctrl.straps = s.ctrl.straps ∧ t.ctrl.report = s.ctrl.report ∧ t.ctrl.cause = s.ctrl.cause
      ∧ t.ctrl.lastCount = s.ctrl.lastCount) : t.volatileCleared := by
  obtain ⟨hs, hr, hc, hn⟩ := hc
  simpa only [State.volatileCleared, State.slot, hg, ht, hj, hw, ha, hl, he, hs, hr, hc, hn] using h

/-- The ports of the host and of the management are no part of it. -/
theorem State.volatileCleared.setHost {s : State} (h : s.volatileCleared) (x : HostPort) : (s.setHost x).volatileCleared :=
  h

theorem State.volatileCleared.setMgmt {s : State} (h : s.volatileCleared) (m : MgmtPort) : (s.setMgmt m).volatileCleared :=
  h

/-- PFAIL# keeps the cleared state. -/
theorem State.volatileCleared.freeze {s : State} (h : s.volatileCleared) : s.freeze.volatileCleared :=
  h.of_eq rfl rfl rfl rfl rfl rfl rfl ⟨rfl, rfl, rfl, rfl⟩

/-- The end of STARTING keeps the cleared state. -/
theorem State.endStarting_cleared {s : State} (h : s.volatileCleared) (hs : s.supply = true)
    (hp : s.port.inFlight = none) (hh : s.host.phase ≠ .waiting) : s.endStarting.volatileCleared := by
  have hport : s.endStarting.port.lastGranted = s.port.lastGranted ∧ s.endStarting.ctrl.straps = s.ctrl.straps
      ∧ s.endStarting.ctrl.report = s.ctrl.report ∧ s.endStarting.ctrl.cause = s.ctrl.cause
      ∧ s.endStarting.ctrl.lastCount = s.ctrl.lastCount := by
    cases hf : s.pins.pfail with
    | true => rw [State.endStarting_of_pfail hf]; exact ⟨rfl, rfl, rfl, rfl, rfl⟩
    | false => rw [State.endStarting_of_not_pfail hf hs hp hh]; exact ⟨rfl, rfl, rfl, rfl, rfl⟩
  refine h.of_eq ?_ ?_ ?_ ?_ ?_ hport.1 ?_ hport.2 <;> simp

/-- What the end of STARTING does to a part with these straps and a free port. -/
theorem State.endStarting_effect {s : State} {straps : Straps} (h : s.volatileCleared)
    (hctrl : s.ctrl = Controller.starting straps) (hs : s.supply = true)
    (hp : s.port.inFlight = none) (hh : s.host.phase ≠ .waiting) :
    s.endStarting.supply = true ∧ s.endStarting.ctrl.straps = straps ∧ s.endStarting.volatileCleared
      ∧ s.endStarting.ctrl.hrsto = true ∧ s.endStarting.mem = s.mem ∧ s.endStarting.pins = s.pins
      ∧ s.endStarting.pending = s.pending
      ∧ (s.pins.pfail = false →
          s.endStarting.host = s.host ∧ s.endStarting.ctrl.opState = .recovering
            ∧ s.endStarting.ctrl.startCause = .powerup
            ∧ s.endStarting.port.inFlight = some { owner := .system, addr := hiddenBase straps, op := .read }
            ∧ s.endStarting.mgmt = s.mgmt)
      ∧ (s.pins.pfail = true →
          s.endStarting.host = HostPort.idle ∧ s.endStarting.ctrl.opState = .frozen
            ∧ s.endStarting.port.inFlight = none ∧ s.endStarting.mgmt.phase = .blocked) := by
  have hbase : s.base = hiddenBase straps := by rw [State.base, hctrl]; rfl
  have hstraps : s.ctrl.straps = straps := by rw [hctrl]; rfl
  refine ⟨by simp [hs], ?_, State.endStarting_cleared h hs hp hh, ?_, by simp, by simp, by simp, fun hf => ?_, fun hf => ?_⟩
  · cases hf : s.pins.pfail with
    | true => rw [State.endStarting_of_pfail hf]; exact hstraps
    | false => rw [State.endStarting_of_not_pfail hf hs hp hh]; exact hstraps
  · cases hf : s.pins.pfail with
    | true => rw [State.endStarting_of_pfail hf]; rfl
    | false => rw [State.endStarting_of_not_pfail hf hs hp hh]; rfl
  · rw [State.endStarting_of_not_pfail hf hs hp hh, hbase]
    exact ⟨rfl, rfl, rfl, rfl, rfl⟩
  · rw [State.endStarting_of_pfail hf]
    exact ⟨rfl, rfl, rfl, rfl⟩

/-- A part whose supply comes starts up cleared. -/
theorem State.startUp_cleared (s : State) (t : Straps) : (s.startUp t).volatileCleared :=
  ((s.clearVolatile_cleared t).setHost _).setMgmt _

/-- R155: a loss of supply leaves the volatile state cleared. -/
theorem State.lost_cleared (s : State) : s.lost.volatileCleared := by
  refine State.volatileCleared_of (slots := lostSlots s.freeDraws) ?_ ?_ ?_ ?_ ?_ ?_ ?_ ?_ ?_ ?_ <;>
    simp [State.lost, State.startUp, MemPort.cleared, Controller.starting]

/-- R155: a loss of supply with an access in flight lets it end; without one the part just loses it. -/
theorem execSupplyLoss_cases {s : State} (ans : MemAnswer) (hs : s.supply = true) (hin : s.inMemory) :
    ∃ u : State, execSupplyLoss ans s = .next u.lost ∧ u.pins = s.pins ∧ u.pending = s.pending := by
  unfold execSupplyLoss
  rw [if_pos hs]
  cases ha : s.port.inFlight with
  | none => exact ⟨s, rfl, rfl, rfl⟩
  | some a =>
    obtain ⟨u, b, hu⟩ := State.completeAccess_some (hin a ha) ans
    simp only [hu]
    refine ⟨u, rfl, ?_⟩
    obtain ⟨-, ⟨-, rfl⟩ | ⟨_, _, -, rfl⟩⟩ := State.completeAccess_cases hu <;> exact ⟨rfl, rfl⟩

/-- R154: outside STARTING, PFAIL# freezes the part over the memory in which the access in flight leaves it. -/
theorem execPfailAssert_freezes {s : State} (ans : MemAnswer) (hs : s.supply = true) (hf : s.ctrl.opState ≠ .frozen)
    (ho : s.ctrl.opState ≠ .starting) (hin : s.inMemory) :
    ∃ m, execPfailAssert ans s = .next (((s.setPins { s.pins with pfail := true }).setMem m).freeze)
      ∧ ∀ a b, s.port.inFlight = some a → a.op = .write b → ans = .ok → m = s.mem.write a.addr b := by
  unfold execPfailAssert
  dsimp only
  rw [if_pos (by simp [hs, hf])]
  cases ha : s.port.inFlight with
  | none =>
    refine ⟨s.mem, ?_, nofun⟩
    simp only [State.setPins_port, ha, State.stopOnPfail]
    rw [if_neg (by simpa using ho)]
    rfl
  | some a =>
    have hdone : ∃ m b, (s.setPins { s.pins with pfail := true }).completeAccess a ans
          = some (((s.setPins { s.pins with pfail := true }).setPort { s.port with inFlight := none }).setMem m, b)
        ∧ ∀ v, a.op = .write v → ans = .ok → m = s.mem.write a.addr v := by
      unfold State.completeAccess
      rw [if_pos (by simpa using hin a ha)]
      dsimp only
      split
      · exact ⟨s.mem, _, rfl, by simp [*]⟩
      · exact ⟨s.mem, _, rfl, by simp [*]⟩
      · refine ⟨_, _, rfl, fun v hv _ => ?_⟩
        simp_all
      · exact ⟨_, _, rfl, nofun⟩
    obtain ⟨m, b, hm, hok⟩ := hdone
    simp only [State.setPins_port, ha, hm, State.stopOnPfail]
    rw [if_neg (by simpa using ho)]
    refine ⟨m, rfl, fun x v hx hv hans => ?_⟩
    obtain rfl : a = x := by simpa using hx
    exact hok v hv hans

/-! ## The PFAIL restart -/

/-- What a restart sets, and what it leaves. -/
@[simp] theorem State.restart_sets (s : State) :
    s.restart.stage = Staging.cleared s.stage.slots
      ∧ s.restart.table = { s.table with
          entries := RegionTable.noEntries, defaultClass := DefaultClass.ofDefro s.ctrl.straps.defro }
      ∧ s.restart.journal = Journal.cleared ∧ s.restart.writer = Writer.idle ∧ s.restart.applier = Applier.idle
      ∧ s.restart.host = HostPort.idle ∧ s.restart.port = MemPort.cleared
      ∧ s.restart.mgmt = MgmtPort.fresh s.pins.scsLow
      ∧ s.restart.ctrl = { s.ctrl with
          cause := .noCause, lastCount := 0, loader := [], format := none, recovery := Recovery.idle }
      ∧ s.restart.events = s.events ∧ s.restart.mem = s.mem ∧ s.restart.pins = s.pins
      ∧ s.restart.pending = s.pending ∧ s.restart.supply = s.supply := by
  simp [State.restart]

/-- R156: the release of PFAIL# in FROZEN restarts the part, logs PFAIL_RESTART and begins recovery. -/
theorem execPfailRestart_of_frozen {s : State} (hs : s.supply = true) (ho : s.ctrl.opState = .frozen) :
    execPfailRestart s = .next
      ((((s.setPins { s.pins with pfail := false }).restart.setEvents
        ((s.events.arrive
          { kind := .pfailRestart, detail := s.ctrl.interrupted.code, region := none, address := none,
            count := BitVec.ofNat 8 (8 - s.stage.count .free) }).evaluate s.table.mask)).beginRecovery .pfail).setPort
        { inFlight := some { owner := .system, addr := s.base, op := .read }, lastGranted := .applier }) := by
  unfold execPfailRestart
  dsimp only
  rw [if_pos (by simp [hs, ho]), State.beginRecovery_grant _ (by simp [hs]) (by simp [MemPort.cleared])
    (by simp [HostPort.idle])]
  simp [State.logEvent_eq, State.base, MemPort.cleared]

/-! ## SRST# -/

/-- R24: the host port after SRST#. -/
theorem HostPort.onReset_eq (h : HostPort) :
    h.onReset = if h.phase = .access then { h with fate := .abandoned } else HostPort.idle := by
  unfold HostPort.onReset
  cases h.phase <;> rfl

/-- The number of slots in a state is the length of their list. -/
theorem Staging.withState_length (g : Staging) (st : SlotState) : (g.withState st).length = g.count st :=
  (List.countP_eq_length_filter ..).symm

theorem Staging.withState_eq_nil {g : Staging} {st : SlotState} : g.withState st = [] ↔ g.count st = 0 := by
  rw [← List.length_eq_zero_iff, Staging.withState_length]

/-- The slots that SRST# frees. -/
def Staging.openSlots (g : Staging) : List (Fin 8) :=
  g.withState .filling ++ g.withState .held

theorem Staging.mem_openSlots {g : Staging} {i : Fin 8} :
    i ∈ g.openSlots ↔ g.slots[i].state ∈ [SlotState.filling, .held] := by
  simp only [Staging.openSlots, List.mem_append, Staging.mem_withState, List.mem_cons, List.not_mem_nil, or_false]

/-- R61: the event of SRST#, and the store it leaves. -/
theorem State.discardOpen_eq (s : State) :
    s.discardOpen = (s.setStage { s.stage.freeSlots s.stage.openSlots with held := Vector.replicate 8 [] }).setEvents
      (if s.stage.count .filling = 0 ∧ s.stage.count .held = 0 then s.events
        else (s.events.arrive
          { kind := .slotsDiscarded, detail := BitVec.ofNat 8 (s.stage.count .filling), region := none,
            address := none, count := BitVec.ofNat 8 (s.stage.count .held) }).evaluate s.table.mask) := by
  unfold State.discardOpen
  simp only [Staging.withState_eq_nil, Staging.withState_length]
  split <;> rfl

end Sys2Proof.Machine

open Sys2Proof Sys2Proof.Machine

/-- Settles O18: the clearing sets each volatile field, and the end of STARTING keeps them. -/
theorem supplyChangesClearVolatileState : Obligations.SupplyChangesClearVolatileState := by
  unfold Obligations.SupplyChangesClearVolatileState
  refine ⟨fun straps s hstart => ?_, fun ans s hs hin => ?_⟩
  · cases hs : s.supply with
    | false =>
      refine ⟨_, execPowerUp_of_unpowered straps hs, ?_⟩
      obtain ⟨h1, h2, h3, h4, h5, h6, h7, hrun, hfrozen⟩ := State.endStarting_effect (straps := straps)
        (s := (s.setSupply true).startUp straps) (State.startUp_cleared _ straps) (by simp [State.startUp]) (by simp)
        (by simp [State.startUp, MemPort.cleared]) (by simp [State.startUp, HostPort.idle])
      refine ⟨h1, h2, h3, h4, h5, h6, h7, fun _ => ?_, nofun, fun hf => ?_, fun hf => (hfrozen hf).2⟩
      · cases hf : s.pins.pfail with
        | true => exact (hfrozen hf).1
        | false => exact (hrun hf).1
      · obtain ⟨-, ho, hc, hp, hm⟩ := hrun hf
        exact ⟨ho, hc, hp, fun _ => by
          rw [hm]; simp [State.startUp, MgmtPort.fresh, MgmtPort.quiet], nofun⟩
    | true =>
      have ho : s.ctrl.opState = .starting := hstart.resolve_left (by simp [hs])
      refine ⟨_, execPowerUp_of_starting straps hs ho, ?_⟩
      obtain ⟨h1, h2, h3, h4, h5, h6, h7, hrun, hfrozen⟩ := State.endStarting_effect (straps := straps)
        (s := (s.clearVolatile straps).setHost s.host.afterStarting)
        ((s.clearVolatile_cleared straps).setHost _) (by simp) (by simpa using hs) (by simp [MemPort.cleared])
        s.host.afterStarting_not_waiting
      simp only [State.setHost_mem, State.setHost_pins, State.setHost_pending, State.setHost_host, State.setHost_mgmt,
        State.clearVolatile_frame] at h5 h6 h7 hrun hfrozen
      refine ⟨h1, h2, h3, h4, h5, h6, h7, ?_, fun _ hf hh => ?_, fun hf => ?_, fun hf => (hfrozen hf).2⟩
      · rintro (hn | hf | hh)
        · cases hn
        · exact (hfrozen hf).1
        · cases hf : s.pins.pfail with
          | true => exact (hfrozen hf).1
          | false => exact (hrun hf).1.trans (HostPort.afterStarting_of_not_holding hh)
      · exact (hrun hf).1.trans (HostPort.afterStarting_of_holding hh)
      · obtain ⟨-, ho, hc, hp, hm⟩ := hrun hf
        exact ⟨ho, hc, hp, nofun, fun _ => hm⟩
  · obtain ⟨u, hu, hpins, hpend⟩ := execSupplyLoss_cases ans hs hin
    have hmem : s.memoryKept u.lost := State.movesMem.memoryKept (always_next.1 (hu ▸ execSupplyLoss_movesMem s ans))
    have hhost : u.lost.host = HostPort.idle ∧ u.lost.port.inFlight = none := by
      simp [State.lost, State.startUp, MemPort.cleared]
    exact ⟨_, hu, rfl, u.lost_cleared, hhost.1, hhost.2, hmem, by simp [hpins], by simp [hpend]⟩

/-- Settles O19: a freeze writes the ports and the operating state alone. -/
theorem pfailAssertFreezes : Obligations.PfailAssertFreezes := by
  unfold Obligations.PfailAssertFreezes
  refine ⟨fun ans s hs hf ho hin => ?_, fun ans s hs ho hp => ?_⟩
  · obtain ⟨m, hexec, hok⟩ := execPfailAssert_freezes ans hs hf ho hin
    have hmem : s.memoryKept (((s.setPins { s.pins with pfail := true }).setMem m).freeze) :=
      State.movesMem.memoryKept (always_next.1 (hexec ▸ execPfailAssert_movesMem s ans))
    exact ⟨_, hexec, rfl, rfl, rfl, rfl, rfl, rfl, rfl, rfl, rfl, rfl, rfl, rfl, rfl, rfl, rfl, rfl, hmem, hok⟩
  · refine ⟨((s.setPins { s.pins with pfail := true }).startUp s.ctrl.straps).freeze, ?_, rfl, ?_, rfl, by simp⟩
    · simp [exec, execPfailAssert, hs, ho, hp, State.stopOnPfail]
    · exact (State.startUp_cleared _ _).freeze

/-- Settles O20: the restart clears all but the events, the mask, the report and the straps. -/
theorem pfailRestartClearsAndKeeps : Obligations.PfailRestartClearsAndKeeps := by
  unfold Obligations.PfailRestartClearsAndKeeps
  intro s hs ho _
  refine ⟨_, execPfailRestart_of_frozen hs ho, rfl, rfl, rfl, fun i => ?_, ?_, ?_, fun i => ?_, fun i => ?_, ?_⟩
  · simpa [State.slot, State.beginRecovery, State.enterState] using Staging.cleared_slot s.stage.slots i
  · simp [State.beginRecovery, State.enterState, Staging.cleared]
  · simp [State.beginRecovery, State.enterState, Staging.cleared]
  · simp [State.beginRecovery, State.enterState, Staging.cleared]
  · simpa [State.beginRecovery, State.enterState] using RegionTable.noEntries_get i
  · simp [State.beginRecovery, State.enterState, DefaultClass.ofDefro, Journal.cleared, MgmtPort.fresh, MgmtPort.quiet]
    exact ⟨rfl, rfl⟩

/-- Settles O21: the open slots are those in FILLING and HELD, and a freeing of slots clears them alone. -/
theorem hostResetActsByState : Obligations.HostResetActsByState := by
  unfold Obligations.HostResetActsByState
  refine ⟨fun s hs hp ho => ?_, fun s hs hp ho => ?_, fun s hs ho => ?_, fun s => rfl⟩
  · obtain ⟨hfreed, hkept, hqueue, -, hchain, hcounter⟩ := Staging.freeSlots_cases s.stage s.stage.openSlots
    have hf : s.ctrl.opState ≠ .frozen := by rintro e; simp [e] at ho
    have hro : s.ctrl.opState = .running ∨ s.ctrl.opState = .faulted := by simpa using ho
    refine ⟨{ s.stage.freeSlots s.stage.openSlots with held := Vector.replicate 8 [] },
      if s.stage.count .filling = 0 ∧ s.stage.count .held = 0 then s.events else _, ?_,
      fun i hi => hfreed i (Staging.mem_openSlots.2 hi), fun i hi => hkept i fun hm => hi (Staging.mem_openSlots.1 hm),
      fun t => by simp, hqueue, hcounter, ?_, fun h h' => if_pos ⟨h, h'⟩, fun h => if_neg fun h' => h.elim (· h'.1) (· h'.2)⟩
    · simp only [exec, execHostReset, hs, hp, HostPort.onReset_eq, State.discardOpen_eq, State.setHost_ctrl,
        State.setPins_ctrl, if_pos hro, beq_eq_false_iff_ne.2 hf]
      rfl
    · rw [hchain]
      exact List.filter_congr fun i _ => by simp only [Staging.mem_openSlots]; rfl
  · have hno : s.ctrl.opState ≠ .running ∧ s.ctrl.opState ≠ .faulted ∧ s.ctrl.opState ≠ .frozen := by
      refine ⟨?_, ?_, ?_⟩ <;> rintro e <;> simp [e] at ho
    simp [exec, execHostReset, hs, hp, hno, HostPort.onReset_eq]
  · simp [exec, execHostReset, ho]
end

section
/-! SUPPORT. The decoder's four cases (R8) and the record reference (R5, R6). -/

namespace Sys2Proof.Machine

variable {s : State} {a : Nat}

/-! ## The cases of the lookup (R8) -/

theorem State.base_le_memorySize (s : State) : s.base ≤ memorySize s.ctrl.straps := by
  have := hiddenBase_add s.ctrl.straps
  unfold State.base
  omega

theorem State.lookup_of_beyond (h : memorySize s.ctrl.straps ≤ a) :
    s.lookup a = { cls := .beyond, region := none, ref := none } :=
  if_pos h

theorem State.lookup_of_hidden (h : s.base ≤ a) (hm : a < memorySize s.ctrl.straps) :
    s.lookup a = { cls := .hidden, region := none, ref := none } := by
  rw [State.lookup, if_neg (Nat.not_le.2 hm), if_pos h]

/-- Below the hidden area the table decides. -/
theorem State.lookup_below (h : a < s.base) :
    s.lookup a = match RegionTable.find s.table.entries a with
      | some i =>
        { cls := s.table.entries[i].cls.addrClass, region := some i,
          ref := if s.table.entries[i].cls = .record then some (RegionTable.recordRef s.table.entries i a) else none }
      | none => { cls := s.table.defaultClass.addrClass, region := none, ref := none } := by
  have := s.base_le_memorySize
  exact (if_neg (by omega)).trans (if_neg (by omega))

/-- An address in no valid entry takes the default class. -/
theorem State.lookup_of_uncovered (h : a < s.base) (hc : ∀ i : Fin 8, s.table.entries[i].covers a = false) :
    s.lookup a = { cls := s.table.defaultClass.addrClass, region := none, ref := none } := by
  have hnone : RegionTable.find s.table.entries a = none := List.find?_eq_none.2 fun i _ => by rw [hc i]; nofun
  rw [State.lookup_below h, hnone]

/-- R2: in a legal table, the entry that holds an address is the one found. -/
theorem RegionTable.Legal.find_eq {entries : Vector RegionEntry 8} {base : Nat} {i : Fin 8}
    (h : RegionTable.Legal entries base) (hi : entries[i].covers a = true) : RegionTable.find entries a = some i :=
  find_indices8_lowest hi fun k hk => by
    by_contra hc
    exact absurd (h.covers_unique (by simpa using hc) hi) (Fin.ne_of_lt hk)

/-- R1: a valid entry of a legal table lies below the hidden area. -/
theorem RegionTable.Legal.covers_below {entries : Vector RegionEntry 8} {base : Nat} {i : Fin 8}
    (h : RegionTable.Legal entries base) (hi : entries[i].covers a = true) : a < base := by
  obtain ⟨hv, -, hl⟩ := RegionEntry.covers_iff.1 hi
  have := ((h.normal i).range hv).2
  omega

theorem State.lookup_of_covered (h : s.tableLegal) {i : Fin 8} (hi : s.table.entries[i].covers a = true) :
    s.lookup a = {
      cls := s.table.entries[i].cls.addrClass
      region := some i
      ref := if s.table.entries[i].cls = .record then some (RegionTable.recordRef s.table.entries i a) else none } := by
  obtain ⟨hl, -⟩ := State.tableLegal_iff.1 h
  rw [State.lookup_below (hl.covers_below hi), hl.find_eq hi]

/-! ## The record reference (R5, R6) -/

/-- R7: a trigger is a region that some valid entry follows. -/
theorem RegionTable.isTrigger_iff {entries : Vector RegionEntry 8} {i : Fin 8} :
    RegionTable.isTrigger entries i = true ↔ ∃ k : Fin 8, entries[k].valid = true ∧ entries[k].follows = some i := by
  simp [RegionTable.isTrigger]

/-- R5: HOME plus the offset is the address. -/
theorem RegionTable.recordRef_home {entries : Vector RegionEntry 8} {i : Fin 8} (hi : entries[i].covers a = true) :
    (RegionTable.recordRef entries i a).home.toNat + (RegionTable.recordRef entries i a).offset = a := by
  obtain ⟨-, hb, hl⟩ := RegionEntry.covers_iff.1 hi
  have hlim := entries[i].limit.isLt
  have hmod : (a - entries[i].base.toNat) % entries[i].rsize ≤ a - entries[i].base.toNat := Nat.mod_le _ _
  have hoff : entries[i].offset a ≤ a := by unfold RegionEntry.offset; omega
  change (toAddr (a - entries[i].offset a)).toNat + entries[i].offset a = a
  rw [toNat_toAddr (by omega)]
  omega

/-- R1, R5: in a legal table every offset is below 128. -/
theorem State.ref_offset_lt (h : s.tableLegal) {r : RecordRef} (hr : (s.lookup a).ref = some r) : r.offset < 128 := by
  obtain ⟨-, i, hi, hc, rfl, -⟩ := State.lookup_ref_cases hr
  obtain ⟨hl, -⟩ := State.tableLegal_iff.1 h
  obtain ⟨hv, -, -⟩ := RegionEntry.covers_iff.1 hi
  have hn := hl.normal i
  rw [RegionEntry.normal, if_pos hv] at hn
  obtain ⟨-, -, hrec, -⟩ := hn
  obtain ⟨h2, h128, -, -⟩ := hrec hc
  have : (a - s.table.entries[i].base.toNat) % s.table.entries[i].rsize < s.table.entries[i].rsize :=
    Nat.mod_lt _ (by omega)
  change (a - s.table.entries[i].base.toNat) % s.table.entries[i].rsize < 128
  omega

end Sys2Proof.Machine

open Sys2Proof Sys2Proof.Machine

/-- Settles O23: in a legal table one entry at most holds an address, so the search finds the one that does. -/
theorem lookupTakesFirstCase : Obligations.LookupTakesFirstCase := by
  unfold Obligations.LookupTakesFirstCase
  intro s a h
  refine ⟨State.lookup_of_beyond, State.lookup_of_hidden, State.lookup_of_uncovered, fun i hi => ?_⟩
  rw [State.lookup_of_covered h hi]
  refine ⟨rfl, rfl, fun hc => if_neg hc, fun hc =>
    ⟨RegionTable.recordRef s.table.entries i a, if_pos hc, rfl, rfl, ?_, rfl, beq_iff_eq, rfl, ?_⟩⟩
  · exact RegionTable.recordRef_home hi
  · exact RegionTable.isTrigger_iff
end

section
/-! SUPPORT. A host cycle: what its decode makes of it, what follows a request, and what follows an answer or a hold (R20 to
R31). -/

namespace Sys2Proof.Machine

variable {s : State}

/-! ## The capture and the decode -/

/-- R20, R33: the state with a cycle captured and decoded against the table. -/
def State.decoded (s : State) (kind : CycleKind) (addr : Addr) (data : Byte) : State :=
  s.setHost { HostPort.captured kind addr data with found := some (s.lookup addr.toNat) }

/-- R20: a cycle that is taken is captured, served, and then the arbiter looks at what it posted. -/
theorem exec_hostCycle (h : s.takesCycles = true) (rd : Bool) (addr : Addr) (data : Byte) :
    exec (.hostCycle true rd (!rd) addr data) s
      = .next ((s.setHost (HostPort.captured (if rd then .read else .write) addr data)).serve).grant := by
  cases rd <;> simp [exec, execHostCycle, h]

/-- R20: what it takes for the port to take a cycle. -/
theorem State.takesCycles_iff : s.takesCycles = true
    ↔ s.supply = true ∧ s.host.phase = .idle ∧ s.pins.srst = false ∧ s.ctrl.opState ≠ .frozen := by
  simp [State.takesCycles, and_assoc]

/-- R25 to R31: where every class but a RECORD write is served as in RUNNING. -/
theorem State.serve_captured {kind : CycleKind} {addr : Addr} (data : Byte)
    (ho : s.ctrl.opState ∈ [OpState.running, .faulted]
      ∨ (s.ctrl.opState = .locked ∧ s.ctrl.format = none ∧ kind = .read))
    (hk : (s.lookup addr.toNat).cls ≠ .record ∨ kind = .read) :
    (s.setHost (HostPort.captured kind addr data)).serve
      = (s.decoded kind addr data).serveRunning (s.lookup addr.toNat) := by
  have hlook : (s.setHost (HostPort.captured kind addr data)).lookup addr.toNat = s.lookup addr.toNat := rfl
  have haddr : (HostPort.captured kind addr data).addr = addr := rfl
  have hfaulted : (s.decoded kind addr data).serveFaulted (s.lookup addr.toNat)
      = (s.decoded kind addr data).serveRunning (s.lookup addr.toNat) := by
    unfold State.serveFaulted
    split
    · rename_i hc hw
      rcases hk with hk | rfl
      · exact absurd hc hk
      · cases hw
    · rfl
  unfold State.serve
  simp only [State.setHost_host, State.setHost_ctrl, haddr, hlook, State.setHost_setHost]
  rcases ho with ho | ⟨ho, hf, rfl⟩
  · rcases List.mem_cons.1 ho with ho | ho
    · rw [ho]; rfl
    · rw [List.mem_singleton.1 ho]; exact hfaulted
  · rw [ho, hf]; rfl

/-- R33: in RUNNING every cycle is served by its class. -/
theorem State.serve_captured_running (kind : CycleKind) (addr : Addr) (data : Byte) (ho : s.ctrl.opState = .running) :
    (s.setHost (HostPort.captured kind addr data)).serve
      = (s.decoded kind addr data).serveRunning (s.lookup addr.toNat) := by
  unfold State.serve
  simp only [State.setHost_ctrl, ho]
  rfl

/-! ## The grant that follows -/

/-- R37, R38: a busy port grants nothing. -/
theorem State.grant_of_busy (h : s.port.inFlight ≠ none) : s.grant = s := by
  rcases State.grant_cases s with e | ⟨_, _, hn, -, -⟩ | ⟨_, hn, -, -⟩
  · exact e
  · exact absurd hn h
  · exact absurd hn h

/-- R37: the access that a waiting host port asks for. -/
def HostPort.access (h : HostPort) : Access where
  owner := .requester .host
  addr := h.addr.toNat
  op := match h.kind with
    | .read => .read
    | .write => .write h.data

theorem State.hostWants_of_waiting (h : s.host.phase = .waiting) : s.hostWants = some s.host.access :=
  if_pos h

/-- R38: with no engine waiting, the host path is granted. -/
theorem State.grant_host (hs : s.supply = true) (hf : s.ctrl.opState ≠ .frozen) (hp : s.port.inFlight = none)
    (hh : s.host.phase = .waiting) (hw : s.writerWants = none) (ha : s.applierWants = none) :
    s.grant = s.grantTo .host s.host.access := by
  have hhost := State.hostWants_of_waiting hh
  have hnext : s.nextGrant Requester.all = some (.host, s.host.access) := by
    cases hl : s.port.lastGranted <;>
      simp [State.nextGrant, hl, Requester.rotation, Requester.all, State.wants, hhost, hw, ha]
  have hsys : (s.grantTo .host s.host.access).grantSystem = s.grantTo .host s.host.access := by
    simp [State.grantSystem, State.grantTo]
  simp [State.grant, hs, hf, State.grantAmong, hp, hnext, hsys]

/-- R22, R37, R38: what the arbiter makes of a request just posted: it waits, or its access begins. -/
theorem State.request_grant {h : HostPort} (hh : h.phase = .waiting) :
    ∃ h' p, (s.setHost h).grant = (s.setHost h').setPort p
      ∧ (h' = h ∨ h' = { h with phase := .access } ∧ p.inFlight = some h.access)
      ∧ (s.port.inFlight ≠ none → h' = h ∧ p = s.port)
      ∧ (s.supply = true → s.ctrl.opState ≠ .frozen → s.port.inFlight = none → s.writerWants = none →
          s.applierWants = none → h' = { h with phase := .access } ∧ p = { inFlight := some h.access, lastGranted := .host }) := by
  by_cases hquiet : s.supply = true ∧ s.ctrl.opState ≠ .frozen ∧ s.port.inFlight = none ∧ s.writerWants = none
      ∧ s.applierWants = none
  · obtain ⟨hs, hf, hp, hw, ha⟩ := hquiet
    refine ⟨{ h with phase := .access }, { inFlight := some h.access, lastGranted := .host }, ?_, .inr ⟨rfl, rfl⟩,
      fun hb => absurd hp hb, fun _ _ _ _ _ => ⟨rfl, rfl⟩⟩
    rw [State.grant_host (s := s.setHost h) hs hf hp hh hw ha]
    rfl
  · have hnot : ∀ P : Prop, s.supply = true → s.ctrl.opState ≠ .frozen → s.port.inFlight = none → s.writerWants = none →
        s.applierWants = none → P := fun P h1 h2 h3 h4 h5 => absurd ⟨h1, h2, h3, h4, h5⟩ hquiet
    rcases State.grant_cases (s.setHost h) with e | ⟨r, a, hn, hw, e⟩ | ⟨a, hn, -, e⟩
    · exact ⟨h, s.port, e, .inl rfl, fun _ => ⟨rfl, rfl⟩, hnot _⟩
    · rw [State.setHost_port] at hn
      cases r with
      | host =>
        have ha : a = h.access := by
          rw [State.wants, State.hostWants_of_waiting hh] at hw
          exact (Option.some.inj hw).symm
        exact ⟨{ h with phase := .access }, { inFlight := some a, lastGranted := .host }, e, .inr ⟨rfl, congrArg some ha⟩,
          fun hb => absurd hn hb, hnot _⟩
      | writer => exact ⟨h, { inFlight := some a, lastGranted := .writer }, e, .inl rfl, fun hb => absurd hn hb, hnot _⟩
      | applier => exact ⟨h, { inFlight := some a, lastGranted := .applier }, e, .inl rfl, fun hb => absurd hn hb, hnot _⟩
    · rw [State.setHost_port] at hn
      exact ⟨h, { s.port with inFlight := some a }, e, .inl rfl, fun hb => absurd hn hb, hnot _⟩

/-- R21, R23: after a cycle that was answered or held, a grant touches the memory port alone, and not for the host. -/
theorem exec_hostCycle_settled {u : State} {rd : Bool} {addr : Addr} {data : Byte} (h : s.takesCycles = true)
    (hu : (s.setHost (HostPort.captured (if rd then .read else .write) addr data)).serve = u) (hp : u.port = s.port)
    (hph : u.host.phase ≠ .waiting) :
    ∃ p, exec (.hostCycle true rd (!rd) addr data) s = .next (u.setPort p) ∧ s.port.sparesHost p := by
  obtain ⟨p, hgrant, hspare⟩ := State.grant_port_only hph
  exact ⟨p, by rw [exec_hostCycle h, hu, hgrant], hp ▸ hspare⟩

/-- R34: a write whose service is WRITE_DENIED and the answer. -/
theorem exec_hostCycle_denied {addr : Addr} {data d : Byte} {region : Option (Fin 8)} (ht : s.takesCycles = true)
    (hserve : (s.setHost (HostPort.captured .write addr data)).serve
      = ((s.decoded .write addr data).writeDenied d region).answerWrite) :
    ∃ h p, exec (.hostCycle true false true addr data) s = .next (((s.setHost h).setPort p).setEvents
        ((s.events.arrive
          { kind := .writeDenied, detail := d, region := region, address := some addr,
            count := 0 }).evaluate s.table.mask))
      ∧ h.answeredWrite ∧ s.port.sparesHost p := by
  obtain ⟨p, hexec, hspare⟩ := exec_hostCycle_settled (rd := false) ht hserve rfl nofun
  exact ⟨{ HostPort.captured .write addr data with
    found := some (s.lookup addr.toNat), phase := .answered, hold := none, hd := none }, p, hexec, ⟨rfl, rfl, rfl⟩, hspare⟩

end Sys2Proof.Machine

open Sys2Proof Sys2Proof.Machine

/-- Settles O24: the cycle posts a request, and the arbiter leaves it waiting or begins its access. -/
theorem openCycleGoesToMemory : Obligations.OpenCycleGoesToMemory := by
  unfold Obligations.OpenCycleGoesToMemory
  intro rd addr data s ht ho hc
  obtain ⟨hs, -, -, hf⟩ := State.takesCycles_iff.1 ht
  have hserve : (s.setHost (HostPort.captured (if rd then .read else .write) addr data)).serve
      = (s.decoded (if rd then .read else .write) addr data).postRequest := by
    rw [State.serve_captured data (ho.imp_right fun ⟨h1, h2, h3⟩ => ⟨h1, h2, if_pos h3⟩)]
    · rcases hc with hc | ⟨hc, rfl⟩
      · simp only [State.serveRunning, hc]
      · simp only [State.serveRunning, hc]
        rfl
    · rcases hc with hc | ⟨hc, -⟩ <;> exact .inl (by rw [hc]; nofun)
  obtain ⟨h, p, hgrant, hcase, hbusy, hfree⟩ := State.request_grant (s := s)
    (h := { HostPort.captured (if rd then .read else .write) addr data with
      found := some (s.lookup addr.toNat), phase := .waiting, hold := none }) rfl
  refine ⟨h, p, (exec_hostCycle ht rd addr data).trans ?_, ?_⟩
  · rw [hserve, ← hgrant]; rfl
  · have hkeep : h.kind = (if rd then .read else .write) ∧ h.addr = addr ∧ h.data = data ∧ h.fate = .awaited
        ∧ h.hd = none ∧ h.hold = none := by
      rcases hcase with rfl | ⟨rfl, -⟩ <;> exact ⟨rfl, rfl, rfl, rfl, rfl, rfl⟩
    obtain ⟨h1, h2, h3, h4, h5, h6⟩ := hkeep
    refine ⟨h1, h2, h3, h4, h5, h6, fun hb => ?_, fun hn hw ha => ?_⟩
    · obtain ⟨rfl, hp⟩ := hbusy hb
      exact ⟨rfl, hp⟩
    · obtain ⟨rfl, rfl⟩ := hfree hs hf hn hw ha
      exact ⟨rfl, rfl, by cases rd <;> rfl⟩

/-- Settles O25: each refused write is answered after WRITE_DENIED, without a request. -/
theorem writesAreDeniedByClassAndState : Obligations.WritesAreDeniedByClassAndState := by
  unfold Obligations.WritesAreDeniedByClassAndState
  refine ⟨fun addr data s ht ho hc => exec_hostCycle_denied ht ?_, fun addr data s ht ho hf => exec_hostCycle_denied ht ?_,
    fun addr data s ht ho hc => exec_hostCycle_denied ht ?_⟩
  · rw [State.serve_captured data (.inl ho) (.inl (by rw [hc]; nofun)), State.serveRunning, hc]
    rfl
  · simp only [State.serve, State.setHost_ctrl, ho, hf]
    rfl
  · have hlook : (s.setHost (HostPort.captured .write addr data)).lookup addr.toNat = s.lookup addr.toNat := rfl
    have haddr : (HostPort.captured .write addr data).addr = addr := rfl
    simp only [State.serve, State.setHost_ctrl, State.setHost_host, haddr, hlook, ho, State.serveFaulted, hc]
    rfl

/-- Settles O26: a hidden or beyond cycle is logged and answered, in every state that serves it. -/
theorem hiddenCycleIsAnsweredAtOnce : Obligations.HiddenCycleIsAnsweredAtOnce := by
  unfold Obligations.HiddenCycleIsAnsweredAtOnce
  intro rd addr data s ht ho ha
  have hcls : (s.lookup addr.toNat).cls = .beyond ∧ memorySize s.ctrl.straps ≤ addr.toNat
      ∨ (s.lookup addr.toNat).cls = .hidden ∧ ¬memorySize s.ctrl.straps ≤ addr.toNat := by
    by_cases hm : memorySize s.ctrl.straps ≤ addr.toNat
    · exact .inl ⟨by rw [State.lookup_of_beyond hm], hm⟩
    · exact .inr ⟨by rw [State.lookup_of_hidden ha (Nat.not_le.1 hm)], hm⟩
  have hserve : (s.setHost (HostPort.captured (if rd then .read else .write) addr data)).serve
      = (s.decoded (if rd then .read else .write) addr data).serveHidden (s.lookup addr.toNat).cls := by
    rw [State.serve_captured data (ho.imp_right fun ⟨h1, h2, h3⟩ => ⟨h1, h2, if_pos h3⟩)]
    · rcases hcls with ⟨hc, -⟩ | ⟨hc, -⟩ <;> simp only [State.serveRunning, hc]
    · rcases hcls with ⟨hc, -⟩ | ⟨hc, -⟩ <;> exact .inl (by rw [hc]; nofun)
  obtain ⟨p, hexec, hspare⟩ := exec_hostCycle_settled ht hserve (by simp [State.decoded])
    (by cases rd <;> exact nofun)
  refine ⟨{ HostPort.captured (if rd then .read else .write) addr data with
    found := some (s.lookup addr.toNat), phase := .answered, hold := none, hd := if rd then some 0xFF else none }, p,
    hexec.trans ?_, rfl, rfl, hspare⟩
  rcases hcls with ⟨hc, hm⟩ | ⟨hc, hm⟩
  · rw [hc, if_pos hm]
    cases rd <;> rfl
  · rw [hc, if_neg hm]
    cases rd <;> rfl

/-- Settles O27: in the states that load or recover, the cycle is held as it was captured. -/
theorem cyclesAreHeldDuringStartUpAndLoad : Obligations.CyclesAreHeldDuringStartUpAndLoad := by
  unfold Obligations.CyclesAreHeldDuringStartUpAndLoad
  intro rd addr data s ht ho
  have hserve : (s.setHost (HostPort.captured (if rd then .read else .write) addr data)).serve
      = (s.setHost (HostPort.captured (if rd then .read else .write) addr data)).holdCycle
        (if s.ctrl.opState ∈ [OpState.starting, .recovering, .initload] then .startUp else .reload) := by
    unfold State.serve
    rcases ho with ho | ⟨ho, hf⟩
    · simp only [List.mem_cons, List.not_mem_nil, or_false] at ho
      rcases ho with ho | ho | ho | ho <;> simp only [State.setHost_ctrl, ho] <;> rfl
    · simp only [State.setHost_ctrl, ho]
      exact if_pos (Option.isSome_iff_ne_none.2 hf)
  obtain ⟨p, hexec, hspare⟩ := exec_hostCycle_settled ht hserve rfl nofun
  exact ⟨_, p, hexec, rfl, rfl, rfl, rfl, rfl, hspare⟩
end

section
/-! SUPPORT. RECORD cycles: the newest version of a byte (R58), and the slot that takes a byte, with what its commit byte
makes of it (R43 to R48, R67 to R72). -/

namespace Sys2Proof.Machine

variable {s : State}

/-! ## The newest version (R58) -/

theorem Slot.ofRecord_iff {x : Slot} {region : Fin 8} {home : Addr} :
    x.ofRecord region home = true ↔ x.state ≠ .free ∧ x.region = .entry region ∧ x.home = some home := by
  simp [Slot.ofRecord, Slot.live, and_assoc]

/-- R58: the newest slot of the record that holds the byte gives it. -/
theorem Staging.stagedByte_newest {g : Staging} {region : Fin 8} {home : Addr} {o : Nat} {older newer : List (Fin 8)}
    {i : Fin 8} (hc : g.chain = older ++ i :: newer) (hi : g.slots[i].ofRecord region home = true)
    (hw : g.slots[i].written.getLsbD o = true)
    (hn : ∀ k ∈ newer, g.slots[k].ofRecord region home = true → g.slots[k].written.getLsbD o = false) :
    g.stagedByte region home o = some (g.slots[i].byte o) := by
  have hnone : (newer.filter fun k => g.slots[k].ofRecord region home).reverse.find?
      (fun k => g.slots[k].written.getLsbD o) = none := by
    refine List.find?_eq_none.2 fun k hk => ?_
    obtain ⟨hk, hr⟩ := List.mem_filter.1 (List.mem_reverse.1 hk)
    rw [hn k hk hr]
    nofun
  have hv : g.versions region home = (newer.filter fun k => g.slots[k].ofRecord region home).reverse
      ++ i :: (older.filter fun k => g.slots[k].ofRecord region home).reverse := by
    rw [Staging.versions, hc, List.filter_append, List.filter_cons, if_pos hi, List.reverse_append, List.reverse_cons,
      List.append_assoc, List.singleton_append]
  rw [Staging.stagedByte, Staging.byteFrom, hv, List.find?_append, hnone, Option.none_or, List.find?_cons, hw]
  rfl

/-- R58: where no slot of the record holds the byte, none is found. -/
theorem Staging.stagedByte_none {g : Staging} {region : Fin 8} {home : Addr} {o : Nat}
    (h : ∀ k ∈ g.chain, g.slots[k].ofRecord region home = true → g.slots[k].written.getLsbD o = false) :
    g.stagedByte region home o = none := by
  have hnone : (g.versions region home).find? (fun k => g.slots[k].written.getLsbD o) = none := by
    refine List.find?_eq_none.2 fun k hk => ?_
    obtain ⟨hk, hr⟩ := List.mem_filter.1 (List.mem_reverse.1 hk)
    rw [h k hk hr]
    nofun
  rw [Staging.stagedByte, Staging.byteFrom, hnone]
  rfl

/-! ## The slot that takes a byte (R43 to R47) -/

/-- R43, R46: the store with slot `i` open for the record: as it is where the slot is FILLING, else allocated. -/
def Staging.opened (g : Staging) (i : Fin 8) (r : RecordRef) : Staging :=
  if g.slots[i].state = .filling then g else g.allocate i r

theorem Staging.opened_of_filling {g : Staging} {i : Fin 8} {r : RecordRef} (h : g.slots[i].state = .filling) :
    g.opened i r = g :=
  if_pos h

theorem Staging.opened_of_not_filling {g : Staging} {i : Fin 8} {r : RecordRef} (h : g.slots[i].state ≠ .filling) :
    g.opened i r = g.allocate i r :=
  if_neg h

/-- R47: the store with the byte in slot `i`. -/
def Staging.taken (g : Staging) (i : Fin 8) (r : RecordRef) (b : Byte) : Staging :=
  (g.opened i r).setSlot i ((g.opened i r).slots[i].store r.offset b)

/-- R48: the state in which slot `i` closes if the byte was the commit byte. -/
def State.closedBy (s : State) (i : Fin 8) (r : RecordRef) : State :=
  if r.isCommit then s.closeSlot i r else s

/-- R46: the record's FILLING slot is unique, so it is the one found. -/
theorem State.stagingRight.fillingSlot_eq (h : s.stagingRight) {r : RecordRef} {i : Fin 8}
    (hs : (s.slot i).state = .filling) (hr : (s.slot i).ofRecord r.region r.home = true) :
    s.stage.fillingSlot r.region r.home = some i := by
  obtain ⟨-, -, ⟨-, huniq, -, -⟩, -⟩ := h
  refine find_indices8_lowest (by rw [State.slot] at hs hr; simp only [hs, hr]; rfl) fun k hk => ?_
  by_contra hc
  obtain ⟨hks, hkr⟩ : (s.slot k).state = .filling ∧ (s.slot k).ofRecord r.region r.home = true := by
    simpa [State.slot] using hc
  obtain ⟨-, hir, hih⟩ := Slot.ofRecord_iff.1 hr
  obtain ⟨-, hkr, hkh⟩ := Slot.ofRecord_iff.1 hkr
  exact absurd (huniq k i hks hs (hkr.trans hir.symm) (hkh.trans hih.symm)) (Fin.ne_of_lt hk)

/-- R43, R46, R47, R48: a RECORD write goes into the slot that takes the byte. -/
theorem State.stageWrite_taken (h : s.stagingRight) {r : RecordRef} {i : Fin 8} (hi : s.takesByte r i) :
    s.stageWrite r = ((s.setStage (s.stage.taken i r s.host.data)).closedBy i r).answerWrite := by
  rw [State.stageWrite, Staging.taken]
  rcases hi with ⟨hs, hr⟩ | ⟨hnone, hfree, hlow⟩
  · rw [h.fillingSlot_eq hs hr, Staging.opened_of_filling hs]
    rfl
  · have hne : s.stage.slots[i].state ≠ .filling := by
      rw [State.slot] at hfree
      rw [hfree]
      nofun
    rw [Staging.fillingSlot_eq_none hnone, Staging.lowestFree_eq hfree hlow, Staging.opened_of_not_filling hne]
    rfl

theorem Staging.allocate_slot (g : Staging) (i : Fin 8) (r : RecordRef) :
    (g.allocate i r).slots[i] =
      { state := .filling, region := .entry r.region, home := some r.home, length := r.length,
        image := g.slots[i].image, written := 0, openNumber := g.openCounter, waitsOn := none, group := none } :=
  Staging.setSlot_same g i _

theorem Staging.allocate_other (g : Staging) {i k : Fin 8} (r : RecordRef) (h : k ≠ i) :
    (g.allocate i r).slots[k] = g.slots[k] :=
  Staging.setSlot_other g _ h

/-- R43, R44: what the store is like with the slot open. -/
theorem State.opened_slot (s : State) (r : RecordRef) (i : Fin 8) :
    (s.stage.opened i r).slots[i] = s.takerBefore r i ∧ (∀ k : Fin 8, k ≠ i → (s.stage.opened i r).slots[k] = s.slot k)
      ∧ (s.stage.opened i r).queue = s.stage.queue ∧ (s.stage.opened i r).held = s.stage.held
      ∧ s.allocationCounted i (s.stage.opened i r) := by
  unfold State.takerBefore State.allocationCounted
  by_cases h : (s.slot i).state = .filling
  · rw [Staging.opened_of_filling h, if_pos h, if_pos h, if_pos h]
    exact ⟨rfl, fun _ _ => rfl, rfl, rfl, rfl, rfl⟩
  · rw [Staging.opened_of_not_filling h, if_neg h, if_neg h, if_neg h]
    exact ⟨Staging.allocate_slot s.stage i r, fun k hk => Staging.allocate_other s.stage r hk, rfl, rfl, rfl, rfl⟩

/-- R43, R44, R47: what the store is like with the byte in the slot. -/
theorem State.taken_slot (s : State) {r : RecordRef} (i : Fin 8) (b : Byte) (ho : r.offset < 128) :
    (s.takerBefore r i).holdsAlso (s.stage.taken i r b).slots[i] r.offset b
      ∧ (∀ k : Fin 8, k ≠ i → (s.stage.taken i r b).slots[k] = s.slot k)
      ∧ (s.stage.taken i r b).queue = s.stage.queue ∧ (s.stage.taken i r b).held = s.stage.held
      ∧ s.allocationCounted i (s.stage.taken i r b) := by
  obtain ⟨hs, hother, hq, hh, hc⟩ := s.opened_slot r i
  refine ⟨?_, fun k hk => (Staging.setSlot_other _ _ hk).trans (hother k hk), hq, hh, hc⟩
  rw [Staging.taken, Staging.setSlot_same, hs]
  exact Slot.store_holdsAlso _ b ho

/-- R46, R47, R48: a RECORD write that finds a slot is answered without a request; the byte is in the slot, which closes if
it was the commit byte. -/
theorem exec_recordWrite {addr : Addr} (data : Byte) {r : RecordRef} {i : Fin 8} (ht : s.takesCycles = true)
    (ho : s.ctrl.opState = .running) (h : s.stagingRight) (hr : (s.lookup addr.toNat).ref = some r)
    (hi : s.takesByte r i) :
    ∃ p, exec (.hostCycle true false true addr data) s = .next (((((s.decoded .write addr data).setStage
        (s.stage.taken i r data)).closedBy i r).answerWrite).setPort p)
      ∧ s.port.sparesHost p := by
  have hserve : (s.setHost (HostPort.captured .write addr data)).serve
      = (((s.decoded .write addr data).setStage (s.stage.taken i r data)).closedBy i r).answerWrite := by
    rw [State.serve_captured_running .write addr data ho]
    have hdec : (s.decoded .write addr data).stagingRight := h.of_eq rfl rfl rfl fun ho => ho
    have htake : (s.decoded .write addr data).takesByte r i := hi
    obtain ⟨hcls, -⟩ := State.lookup_ref_cases hr
    rw [State.serveRunning, hcls, hr]
    exact State.stageWrite_taken hdec htake
  refine exec_hostCycle_settled (rd := false) ht hserve ?_ nofun
  unfold State.closedBy
  split <;> simp [State.decoded]

end Sys2Proof.Machine

open Sys2Proof Sys2Proof.Machine

/-- Settles O28: the search runs from the newest version of the record to the oldest. -/
theorem recordReadFindsNewestByte : Obligations.RecordReadFindsNewestByte := by
  unfold Obligations.RecordReadFindsNewestByte
  intro addr data s r ht ho hcls hr
  have hserve : (s.setHost (HostPort.captured .read addr data)).serve = (s.decoded .read addr data).stageRead r := by
    rw [State.serve_captured data (.inl ho) (.inr rfl), State.serveRunning, hcls, hr]
    rfl
  refine ⟨fun older newer i hc hi hw hn => ?_, fun hnone => ?_⟩
  · have hanswer : (s.decoded .read addr data).stageRead r
        = (s.decoded .read addr data).answerRead ((s.slot i).byte r.offset) := by
      rw [State.stageRead, show (s.decoded .read addr data).stage = s.stage from rfl,
        Staging.stagedByte_newest hc hi hw hn]
      rfl
    obtain ⟨p, hexec, hspare⟩ := exec_hostCycle_settled (rd := true) ht (hserve.trans hanswer) rfl nofun
    exact ⟨_, p, hexec, rfl, rfl, hspare⟩
  · have hpost : (s.decoded .read addr data).stageRead r = (s.decoded .read addr data).postRequest := by
      rw [State.stageRead, show (s.decoded .read addr data).stage = s.stage from rfl, Staging.stagedByte_none hnone]
    obtain ⟨h, p, hgrant, hcase, hbusy, -⟩ := State.request_grant (s := s)
      (h := { HostPort.captured .read addr data with
        found := some (s.lookup addr.toNat), phase := .waiting, hold := none }) rfl
    refine ⟨h, p, (exec_hostCycle ht true addr data).trans ?_, ?_⟩
    · simp only [if_true, hserve, hpost, ← hgrant]
      rfl
    · rcases hcase with rfl | ⟨rfl, hp⟩
      · exact ⟨rfl, rfl, rfl, .inl rfl, nofun, fun hb => ⟨rfl, (hbusy hb).2⟩⟩
      · exact ⟨rfl, rfl, rfl, .inr rfl, fun _ => hp, fun hb => absurd (hbusy hb).1 (by simp)⟩

/-- Settles O29: the write of a byte that does not close the slot. -/
theorem recordWriteStoresByte : Obligations.RecordWriteStoresByte := by
  unfold Obligations.RecordWriteStoresByte
  intro addr data s r i ht ho htab hst hr hc hi
  obtain ⟨p, hexec, hspare⟩ := exec_recordWrite data ht ho hst hr hi
  obtain ⟨hbyte, hother, hq, hh, hcount⟩ := s.taken_slot i data (State.ref_offset_lt htab hr)
  have hclosed : ((s.decoded .write addr data).setStage (s.stage.taken i r data)).closedBy i r
      = (s.decoded .write addr data).setStage (s.stage.taken i r data) := by
    simp [State.closedBy, hc]
  rw [hclosed] at hexec
  exact ⟨_, p, _, hexec, ⟨rfl, rfl, rfl⟩, hspare, hbyte, hother, hq, hh, hcount⟩
end

section
/-! SUPPORT. What a commit byte does by the role of its region (R48, R69 to R72), and a full store (R50, R51). -/

namespace Sys2Proof.Machine

variable {s : State}

/-! ## Closing a slot by the role of its region -/

theorem State.closedBy_unlinked {i : Fin 8} {r : RecordRef} (hc : r.isCommit = true) (hf : r.follows = none)
    (ht : r.isTrigger = false) : s.closedBy i r = s.setStage (s.stage.enqueue i [i]) := by
  simp [State.closedBy, State.closeSlot, hc, hf, ht]

theorem State.closedBy_trigger {i : Fin 8} {r : RecordRef} (hc : r.isCommit = true) (hf : r.follows = none)
    (ht : r.isTrigger = true) : s.closedBy i r = s.setStage (s.stage.closeTrigger i r.region) := by
  simp [State.closedBy, State.closeSlot, hc, hf, ht]

theorem State.closedBy_follower {i t : Fin 8} {r : RecordRef} (hc : r.isCommit = true) (hf : r.follows = some t)
    (hl : s.stage.held[t].length < 3) : s.closedBy i r = s.setStage (s.stage.hold i t) := by
  rw [State.closedBy, if_pos hc, State.closeSlot, hf]
  exact if_pos hl

theorem State.closedBy_limit {i t : Fin 8} {r : RecordRef} (hc : r.isCommit = true) (hf : r.follows = some t)
    (hl : s.stage.held[t].length = 3) : s.closedBy i r = s.groupLimit r.region t := by
  rw [State.closedBy, if_pos hc, State.closeSlot, hf]
  exact if_neg (by omega)

/-- R21: the host port after the answer to a write that was decoded. -/
def State.answeredWriteHost (s : State) (addr : Addr) (data : Byte) : HostPort :=
  { HostPort.captured .write addr data with
    found := some (s.lookup addr.toNat), phase := .answered, hold := none, hd := none }

/-- R47: a write that changed the store alone, answered. -/
theorem State.decoded_answered (s : State) (addr : Addr) (data : Byte) (g g' : Staging) (p : MemPort) :
    ((((s.decoded .write addr data).setStage g).setStage g').answerWrite).setPort p
      = ((s.setHost (s.answeredWriteHost addr data)).setPort p).setStage g' :=
  rfl

/-- R70: a write that met the limit, answered. -/
theorem State.decoded_limit (s : State) (addr : Addr) (data : Byte) (g : Staging) (region trigger : Fin 8) (p : MemPort) :
    ((((s.decoded .write addr data).setStage g).groupLimit region trigger).answerWrite).setPort p
      = (((s.setHost (s.answeredWriteHost addr data)).setPort p).setStage g).setEvents
        ((s.events.arrive
          { kind := .groupLimit, detail := BitVec.ofNat 8 region.val, region := some trigger, address := some addr,
            count := 3 }).evaluate s.table.mask) :=
  rfl

theorem State.answeredWriteHost_answered (s : State) (addr : Addr) (data : Byte) :
    (s.answeredWriteHost addr data).answeredWrite :=
  ⟨rfl, rfl, rfl⟩

/-- R69: what a hold does, and what it leaves. -/
theorem Staging.hold_cases (g : Staging) (i t : Fin 8) :
    (g.hold i t).slots[i] = { g.slots[i] with state := .held, waitsOn := some t, group := none }
      ∧ (∀ k : Fin 8, k ≠ i → (g.hold i t).slots[k] = g.slots[k])
      ∧ (g.hold i t).held[t] = g.held[t] ++ [i] ∧ (∀ k : Fin 8, k ≠ t → (g.hold i t).held[k] = g.held[k])
      ∧ (g.hold i t).queue = g.queue ∧ (g.hold i t).chain = g.chain ∧ (g.hold i t).openCounter = g.openCounter :=
  ⟨Staging.setSlot_same g i _, fun _ hk => Staging.setSlot_other g _ hk, by simp [Staging.hold],
    fun k hk => by
      simp only [Staging.hold, Fin.getElem_fin]
      exact Vector.getElem_set_ne _ _ fun e => hk (Fin.ext e.symm),
    rfl, rfl, rfl⟩

/-- R71, R72: what the closing of a trigger's slot does, and what it leaves. -/
theorem Staging.closeTrigger_cases (g : Staging) (i t : Fin 8) :
    (∀ k ∈ g.held[t] ++ [i],
        (g.closeTrigger i t).slots[k] = { g.slots[k] with state := .queued, waitsOn := none, group := some i })
      ∧ (∀ k, k ∉ g.held[t] ++ [i] → (g.closeTrigger i t).slots[k] = g.slots[k])
      ∧ (g.closeTrigger i t).queue = g.queue ++ [{ tag := i, slots := g.held[t] ++ [i] }]
      ∧ (g.closeTrigger i t).held[t] = [] ∧ (∀ k : Fin 8, k ≠ t → (g.closeTrigger i t).held[k] = g.held[k])
      ∧ (g.closeTrigger i t).chain = g.chain ∧ (g.closeTrigger i t).openCounter = g.openCounter := by
  obtain ⟨hin, hout, hq, -, hc, ho⟩ := g.enqueue_cases i (g.held[t] ++ [i])
  refine ⟨hin, hout, hq, by simp [Staging.closeTrigger], fun k hk => ?_, hc, ho⟩
  simp only [Staging.closeTrigger, Fin.getElem_fin]
  exact Vector.getElem_set_ne _ _ fun e => hk (Fin.ext e.symm)

/-- R43, R57: an operation that keeps the open counter and the chain keeps their account. -/
theorem State.allocationCounted.of_eq {i : Fin 8} {g g' : Staging} (h : s.allocationCounted i g)
    (ho : g'.openCounter = g.openCounter) (hc : g'.chain = g.chain) : s.allocationCounted i g' :=
  ⟨ho.trans h.1, hc.trans h.2⟩

/-- R68: a slot that takes a byte stands on no held list. -/
theorem State.takesByte.not_held {r : RecordRef} {i : Fin 8} (h : s.takesByte r i) (hr : s.stagingRight) (t : Fin 8) :
    i ∉ s.stage.held[t] := by
  obtain ⟨⟨-, -, -, hheld, -⟩, -⟩ := hr
  intro hm
  obtain ⟨hst, -⟩ := (hheld i t).2 hm
  rcases h with ⟨hs, -⟩ | ⟨-, hs, -⟩ <;> rw [hs] at hst <;> cases hst

/-! ## A full store (R50, R51) -/

/-- R50: whether some slot is on its way to FREE. -/
theorem Staging.freeing_iff {g : Staging} :
    g.freeing = true ↔ ∃ k : Fin 8, g.slots[k].state ∈ [SlotState.queued, .writing, .logged, .applying] := by
  simp only [Staging.freeing, List.any_eq_true, mem_indices8, true_and]
  refine exists_congr fun k => ?_
  cases g.slots[k].state <;> decide

/-- R50, R51: a RECORD write for which no slot is open and none FREE is held, or refused. -/
theorem State.serve_captured_full {addr : Addr} (data : Byte) {r : RecordRef} (ho : s.ctrl.opState = .running)
    (hr : (s.lookup addr.toNat).ref = some r) (hfree : ∀ k : Fin 8, (s.slot k).state ≠ .free)
    (hfill : ∀ k : Fin 8, (s.slot k).state = .filling → (s.slot k).ofRecord r.region r.home = false) :
    (s.setHost (HostPort.captured .write addr data)).serve
      = if s.stage.freeing then (s.decoded .write addr data).holdCycle .slot
        else (s.decoded .write addr data).stageFull r := by
  obtain ⟨hcls, -⟩ := State.lookup_ref_cases hr
  rw [State.serve_captured_running .write addr data ho, State.serveRunning, hcls, hr]
  change (s.decoded .write addr data).stageWrite r = _
  rw [State.stageWrite, show (s.decoded .write addr data).stage = s.stage from rfl, Staging.fillingSlot_eq_none hfill,
    Staging.lowestFree_eq_none.2 hfree]

end Sys2Proof.Machine

open Sys2Proof Sys2Proof.Machine

/-- Settles O30: the slot alone becomes a group at the tail of the queue. -/
theorem commitByteQueuesUnlinkedRecord : Obligations.CommitByteQueuesUnlinkedRecord := by
  unfold Obligations.CommitByteQueuesUnlinkedRecord
  intro addr data s r i ht ho htab hst hr hc hf htr hi
  obtain ⟨p, hexec, hspare⟩ := exec_recordWrite data ht ho hst hr hi
  obtain ⟨hbyte, hother, hq, hh, hcount⟩ := s.taken_slot i data (State.ref_offset_lt htab hr)
  obtain ⟨hin, hout, hqueue, hheld, hchain, hcounter⟩ := (s.stage.taken i r data).enqueue_cases i [i]
  rw [State.closedBy_unlinked hc hf htr, State.decoded_answered] at hexec
  refine ⟨s.answeredWriteHost addr data, p, (s.stage.taken i r data).enqueue i [i], _, hexec, s.answeredWriteHost_answered addr data, hspare, hbyte,
    hin i (List.mem_singleton.2 rfl), fun k hk => (hout k (List.mem_singleton.not.2 hk)).trans (hother k hk), ?_,
    hheld.trans hh, hcount.of_eq hcounter hchain⟩
  rw [hqueue, hq]

/-- Settles O31: the follower's slot joins the held list, which never holds more than three. -/
theorem followerCommitHoldsOrMeetsLimit : Obligations.FollowerCommitHoldsOrMeetsLimit := by
  unfold Obligations.FollowerCommitHoldsOrMeetsLimit
  intro addr data s r i t ht ho htab hst hr hc hf hi
  obtain ⟨p, hexec, hspare⟩ := exec_recordWrite data ht ho hst hr hi
  obtain ⟨hbyte, hother, hq, hh, hcount⟩ := s.taken_slot i data (State.ref_offset_lt htab hr)
  refine ⟨fun hl => ?_, fun hl => ?_⟩
  · obtain ⟨hin, hout, hheld, hheldo, hqueue, hchain, hcounter⟩ := (s.stage.taken i r data).hold_cases i t
    rw [State.closedBy_follower hc hf (by rw [State.setStage_stage, hh]; exact hl), State.decoded_answered] at hexec
    refine ⟨s.answeredWriteHost addr data, p, (s.stage.taken i r data).hold i t, _, hexec, s.answeredWriteHost_answered addr data, hspare, hbyte, hin,
      fun k hk => (hout k hk).trans (hother k hk), ?_, fun k hk => ?_, hqueue.trans hq, hcount.of_eq hcounter hchain⟩
    · rw [hheld, hh]
    · rw [hheldo k hk, hh]
  · rw [State.closedBy_limit hc hf (by rw [State.setStage_stage, hh]; exact hl), State.decoded_limit] at hexec
    exact ⟨s.answeredWriteHost addr data, p, _, hexec, s.answeredWriteHost_answered addr data, hspare, hbyte, hother, hh, hq, hcount⟩

/-- Settles O32: the slots HELD on the trigger, in list order, and its own become one group. -/
theorem triggerCommitQueuesHeldSlots : Obligations.TriggerCommitQueuesHeldSlots := by
  unfold Obligations.TriggerCommitQueuesHeldSlots
  intro addr data s r i ht ho htab hst hr hc hf htr hi
  obtain ⟨p, hexec, hspare⟩ := exec_recordWrite data ht ho hst hr hi
  obtain ⟨hbyte, hother, hq, hh, hcount⟩ := s.taken_slot i data (State.ref_offset_lt htab hr)
  obtain ⟨hin, hout, hqueue, hheld, hheldo, hchain, hcounter⟩ := (s.stage.taken i r data).closeTrigger_cases i r.region
  rw [State.closedBy_trigger hc hf htr, State.decoded_answered] at hexec
  rw [hh] at hin hout hqueue
  refine ⟨s.answeredWriteHost addr data, p, (s.stage.taken i r data).closeTrigger i r.region, _, hexec, s.answeredWriteHost_answered addr data, hspare, hbyte,
    hin i (by simp), fun k hk => ?_, fun k hk hkh => ?_, ?_, hheld, fun k hk => ?_, hcount.of_eq hcounter hchain⟩
  · have hne : k ≠ i := fun e => hi.not_held hst r.region (e ▸ hk)
    rw [hin k (List.mem_append_left _ hk), hother k hne]
  · rw [hout k (by simpa [hk] using hkh), hother k hk]
  · rw [hqueue, hq]
  · rw [hheldo k hk, hh]

/-- Settles O33: the write waits exactly while some slot is on its way to FREE. -/
theorem fullStoreHoldsOrRefuses : Obligations.FullStoreHoldsOrRefuses := by
  unfold Obligations.FullStoreHoldsOrRefuses
  intro addr data s r ht ho hr hfree hfill
  have hserve := State.serve_captured_full data ho hr hfree hfill
  refine ⟨fun hway => ?_, fun hopen => ?_⟩
  · rw [if_pos (Staging.freeing_iff.2 hway)] at hserve
    obtain ⟨p, hexec, hspare⟩ := exec_hostCycle_settled (rd := false) ht hserve rfl nofun
    exact ⟨_, p, hexec, rfl, rfl, rfl, rfl, rfl, hspare⟩
  · have hnone : ¬s.stage.freeing = true := by
      intro hfr
      obtain ⟨k, hk⟩ := Staging.freeing_iff.1 hfr
      have := hopen k
      rw [State.slot] at this
      revert hk this
      cases s.stage.slots[k].state <;> decide
    rw [if_neg hnone] at hserve
    obtain ⟨p, hexec, hspare⟩ := exec_hostCycle_settled (rd := false) ht hserve rfl nofun
    exact ⟨_, p, hexec, ⟨rfl, rfl, rfl⟩, hspare⟩
end

section
/-! SUPPORT. A completed access, the byte that the host path takes, and the arbiter's rotation (R36, R38). -/

namespace Sys2Proof.Machine

variable {s : State}

/-! ## A completed access (R36) -/

/-- R36: an access below M that completes with a good answer is delivered to its requester. -/
theorem exec_accessComplete_ok {a : Access} (ord : Order) (hs : s.supply = true) (ha : s.port.inFlight = some a)
    (hm : a.addr < memorySize s.ctrl.straps) :
    exec (.memoryAccessComplete .ok ord) s
      = .next (((s.accessDone a).deliver a.owner (s.accessByte a) ord).afterAccess ord) := by
  simp only [exec, execMemoryAccessComplete, hs, if_true, ha, State.completeAccess_ok hm]

/-- R36: the memory in which a completed access leaves the part. -/
theorem State.accessDone_mem_read {a : Access} (h : a.op = .read) : (s.accessDone a).mem = s.mem := by
  simp [State.accessDone, h]

theorem State.accessDone_mem_write {a : Access} {b : Byte} (h : a.op = .write b) :
    (s.accessDone a).mem = s.mem.write a.addr b := by
  simp [State.accessDone, h]

/-- A read that completes frees the port and changes nothing else. -/
theorem State.accessDone_read {a : Access} (h : a.op = .read) :
    s.accessDone a = s.setPort { s.port with inFlight := none } := by
  rw [State.accessDone, h]
  rfl

theorem State.accessByte_read {a : Access} (h : a.op = .read) : s.accessByte a = s.mem.read a.addr := by
  simp [State.accessByte, h]

/-- What a completed access leaves. -/
@[simp] theorem State.accessDone_frame (s : State) (a : Access) :
    (s.accessDone a).pending = s.pending ∧ (s.accessDone a).supply = s.supply ∧ (s.accessDone a).pins = s.pins
      ∧ (s.accessDone a).ctrl = s.ctrl ∧ (s.accessDone a).table = s.table ∧ (s.accessDone a).stage = s.stage
      ∧ (s.accessDone a).journal = s.journal ∧ (s.accessDone a).writer = s.writer
      ∧ (s.accessDone a).applier = s.applier ∧ (s.accessDone a).host = s.host
      ∧ (s.accessDone a).port = { s.port with inFlight := none } ∧ (s.accessDone a).events = s.events
      ∧ (s.accessDone a).mgmt = s.mgmt :=
  ⟨rfl, rfl, rfl, rfl, rfl, rfl, rfl, rfl, rfl, rfl, rfl, rfl, rfl⟩

/-! ## The host path's byte (R21, R25) -/

/-- The host port after its access gave the byte `b`. -/
def HostPort.taking (h : HostPort) (b : Byte) : HostPort :=
  match h.fate, h.kind with
  | .awaited, .read => { h with phase := .answered, hold := none, hd := some b }
  | .awaited, .write => { h with phase := .answered, hold := none, hd := none }
  | .withdrawn, _ | .abandoned, _ => HostPort.idle

theorem State.hostTake_eq (s : State) (b : Byte) : s.hostTake b = s.setHost (s.host.taking b) := by
  unfold State.hostTake HostPort.taking
  cases hf : s.host.fate <;> cases hk : s.host.kind <;>
    simp only [State.answerRead, State.answerWrite, hf, hk]

theorem HostPort.taking_hold (h : HostPort) (b : Byte) : (h.taking b).hold = none := by
  unfold HostPort.taking
  split <;> rfl

/-! ## The arbiter's rotation (R38) -/

theorem Requester.rotation_filter_all (r : Requester) : (r.rotation.filter fun q => Requester.all.contains q) = r.rotation := by
  cases r <;> rfl

/-- R38: the first requester of the rotation that wants something is granted. -/
theorem State.nextGrant_of_first {before after : List Requester} {r : Requester} {a : Access}
    (hrot : s.port.lastGranted.rotation = before ++ r :: after) (hb : ∀ q ∈ before, s.wants q = none)
    (hr : s.wants r = some a) : s.nextGrant Requester.all = some (r, a) := by
  have hnone : before.findSome? (fun q => (s.wants q).map fun x => (q, x)) = none :=
    List.findSome?_eq_none_iff.2 fun q hq => by rw [hb q hq]; rfl
  rw [State.nextGrant, Requester.rotation_filter_all, hrot, List.findSome?_append, hnone, Option.none_or,
    List.findSome?_cons, hr]
  rfl

/-- R38: a grant to a requester leaves the system's requester nothing to take. -/
theorem State.grantSystem_grantTo (s : State) (r : Requester) (a : Access) : (s.grantTo r a).grantSystem = s.grantTo r a := by
  cases r <;> simp [State.grantSystem, State.grantTo]

/-- R38, R39: where nobody asks for anything, a grant changes nothing. -/
theorem State.grant_of_quiet (h : ∀ q, s.wants q = none) (hsys : s.systemWants = none) : s.grant = s := by
  simp [State.grant, State.grantAmong_of_quiet h, State.grantSystem, hsys]

end Sys2Proof.Machine

open Sys2Proof Sys2Proof.Machine

/-- Settles O34: a write in flight leaves its byte, whatever its requester then does. -/
theorem completedAccessMovesOneByte : Obligations.CompletedAccessMovesOneByte := by
  unfold Obligations.CompletedAccessMovesOneByte
  intro s a ord hs ha
  refine ⟨fun hm => ⟨_, exec_accessComplete_ok ord hs ha hm, fun hop => ?_, fun b hop => ?_⟩, fun hm ans => ?_⟩
  · simpa using State.accessDone_mem_read hop
  · have hmem : (((s.accessDone a).deliver a.owner (s.accessByte a) ord).afterAccess ord).mem = s.mem.write a.addr b := by
      simpa using State.accessDone_mem_write hop
    rw [hmem]
    exact ⟨rfl, fun hwf => Memory.read_write_same hwf _ _, fun k hk => Memory.read_write_other _ _ hk⟩
  · have hnone : s.completeAccess a ans = none := if_neg (Nat.not_lt.2 hm)
    simp only [exec, execMemoryAccessComplete, hs, if_true, ha, hnone]

/-- Settles O35: the host port takes the byte; with no hold the arbiter's choice is all that follows. -/
theorem hostAccessIsAnswered : Obligations.HostAccessIsAnswered := by
  unfold Obligations.HostAccessIsAnswered
  intro s a ord hs ha how hm
  refine ⟨s.host.taking (s.accessByte a), ?_, fun hf hk hop => ?_, fun hf hk => ?_, fun hf => ?_⟩
  · rw [exec_accessComplete_ok ord hs ha hm, how, State.deliver, State.hostTake_eq,
      State.afterAccess_of_hold ord (.inl (by simp [HostPort.taking_hold]))]
    rfl
  · simp only [HostPort.taking, hf, hk, State.accessByte_read hop]
  · simp only [HostPort.taking, hf, hk]
  · unfold HostPort.taking
    cases hfate : s.host.fate with
    | awaited => exact absurd hfate hf
    | withdrawn => rfl
    | abandoned => rfl

/-- Settles O36: the first of the rotation that wants something, since those before it want nothing. -/
theorem arbiterGrantsInRotation : Obligations.ArbiterGrantsInRotation := by
  unfold Obligations.ArbiterGrantsInRotation
  intro s hs ho hp
  refine ⟨fun hq => State.grant_of_quiet hq (by simp [State.systemWants, ho]), fun before after r a hrot hb hr => ?_⟩
  have hnext : s.nextGrant Requester.all = some (r, a) := State.nextGrant_of_first hrot hb hr
  have hgrant : s.grant = s.grantTo r a := by
    simp [State.grant, hs, ho, State.grantAmong, hp, hnext, State.grantSystem_grantTo]
  rw [hgrant]
  cases r with
  | host => exact ⟨{ s.host with phase := .access }, rfl, fun _ => rfl, fun h => absurd rfl h⟩
  | writer => exact ⟨s.host, rfl, nofun, fun _ => rfl⟩
  | applier => exact ⟨s.host, rfl, nofun, fun _ => rfl⟩
end

section
/-! SUPPORT. A write in the slot hold that finds a FREE slot (R33, R52): its fresh decode ends the hold, and where its record
has no FILLING slot its byte lies in the lowest FREE one. -/

namespace Sys2Proof.Machine

variable {s u t : State}

/-! ## The fresh decode ends the hold -/

/-- The port shows a cycle that is not held. -/
def HostPort.unheld (h : HostPort) : Prop :=
  h.hold = none ∧ h.phase ≠ .holding

theorem State.answerWrite_unheld (s : State) : s.answerWrite.host.unheld :=
  ⟨rfl, nofun⟩

theorem State.answerRead_unheld (s : State) (b : Byte) : (s.answerRead b).host.unheld :=
  ⟨rfl, nofun⟩

theorem State.postRequest_unheld (s : State) : s.postRequest.host.unheld :=
  ⟨rfl, nofun⟩

/-- R46, R47: a RECORD write that finds a slot is answered. -/
theorem State.stageWrite_unheld (r : RecordRef) (hfree : s.stage.lowestFree ≠ none) : (s.stageWrite r).host.unheld := by
  unfold State.stageWrite
  split
  · exact State.answerWrite_unheld _
  · split
    · exact State.answerWrite_unheld _
    · exact absurd ‹_› hfree

theorem State.stageRead_unheld (s : State) (r : RecordRef) : (s.stageRead r).host.unheld := by
  unfold State.stageRead
  split
  · exact State.answerRead_unheld _ _
  · exact State.postRequest_unheld _

theorem State.serveHidden_unheld (s : State) (c : AddrClass) : (s.serveHidden c).host.unheld := by
  unfold State.serveHidden
  dsimp only
  split
  · exact State.answerRead_unheld _ _
  · exact State.answerWrite_unheld _

/-- R25 to R28, R52: with a slot FREE no class holds its cycle. -/
theorem State.serveRunning_unheld (k : Lookup) (hfree : s.stage.lowestFree ≠ none) : (s.serveRunning k).host.unheld := by
  unfold State.serveRunning
  split
  · exact State.postRequest_unheld _
  · split
    · exact State.postRequest_unheld _
    · exact State.answerWrite_unheld _
  · exact State.serveHidden_unheld _ _
  · exact State.serveHidden_unheld _ _
  · split
    · exact State.stageRead_unheld _ _
    · exact State.stageWrite_unheld _ hfree
    · exact State.postRequest_unheld _

theorem State.serve_unheld (ho : s.ctrl.opState = .running) (hfree : s.stage.lowestFree ≠ none) : s.serve.host.unheld := by
  have hserve : s.serve = (s.setHost { s.host with found := some (s.lookup s.host.addr.toNat) }).serveRunning
      (s.lookup s.host.addr.toNat) := by
    simp [State.serve, ho]
  rw [hserve]
  exact State.serveRunning_unheld _ hfree

/-! ## Where the byte lies -/

/-- R48, R69, R71: closing keeps whose record the slot holds, and its bytes. -/
theorem State.closedBy_keeps (s : State) (i : Fin 8) (r : RecordRef) :
    ((s.closedBy i r).slot i).region = (s.slot i).region ∧ ((s.closedBy i r).slot i).home = (s.slot i).home
      ∧ ((s.closedBy i r).slot i).openNumber = (s.slot i).openNumber
      ∧ ((s.closedBy i r).slot i).image = (s.slot i).image
      ∧ ((s.closedBy i r).slot i).written = (s.slot i).written := by
  unfold State.slot
  by_cases hc : r.isCommit = true
  · cases hf : r.follows with
    | some t =>
      by_cases hl : s.stage.held[t].length < 3
      · rw [State.closedBy_follower hc hf hl, State.setStage_stage, (s.stage.hold_cases i t).1]
        exact ⟨rfl, rfl, rfl, rfl, rfl⟩
      · have hlimit : s.closedBy i r = s.groupLimit r.region t := by
          rw [State.closedBy, if_pos hc, State.closeSlot, hf]
          exact if_neg hl
        rw [hlimit]
        exact ⟨rfl, rfl, rfl, rfl, rfl⟩
    | none =>
      by_cases ht : r.isTrigger = true
      · rw [State.closedBy_trigger hc hf ht, State.setStage_stage,
          (s.stage.closeTrigger_cases i r.region).1 i (by simp)]
        exact ⟨rfl, rfl, rfl, rfl, rfl⟩
      · rw [State.closedBy_unlinked hc hf (by simpa using ht), State.setStage_stage,
          (s.stage.enqueue_cases i [i]).1 i (by simp)]
        exact ⟨rfl, rfl, rfl, rfl, rfl⟩
  · rw [State.closedBy, if_neg hc]
    exact ⟨rfl, rfl, rfl, rfl, rfl⟩

/-- R43, R47, R52: a write that must allocate is answered from the lowest FREE slot, which then holds its byte. -/
theorem State.stageWrite_allocates {r : RecordRef} {i : Fin 8} (ho : r.offset < 128)
    (hfill : ∀ k : Fin 8, (s.slot k).state = .filling → (s.slot k).ofRecord r.region r.home = false)
    (hi : (s.slot i).state = .free) (hlow : ∀ k : Fin 8, k < i → (s.slot k).state ≠ .free) :
    (s.stageWrite r).host.phase = .answered ∧ ((s.stageWrite r).slot i).region = .entry r.region
      ∧ ((s.stageWrite r).slot i).home = some r.home ∧ ((s.stageWrite r).slot i).openNumber = s.stage.openCounter
      ∧ ((s.stageWrite r).slot i).byte r.offset = s.host.data
      ∧ ((s.stageWrite r).slot i).written.getLsbD r.offset = true := by
  have hwrite : s.stageWrite r = ((s.setStage (s.stage.taken i r s.host.data)).closedBy i r).answerWrite := by
    have hne : s.stage.slots[i].state ≠ .filling := by
      rw [State.slot] at hi
      rw [hi]
      nofun
    rw [State.stageWrite, Staging.fillingSlot_eq_none hfill, Staging.lowestFree_eq hi hlow, Staging.taken,
      Staging.opened_of_not_filling hne]
    rfl
  obtain ⟨⟨hbyte, hwritten, -, -, hregion, hhome, -, hopen, -⟩, -⟩ := s.taken_slot i s.host.data ho
  obtain ⟨kregion, khome, kopen, kimage, kwritten⟩ := (s.setStage (s.stage.taken i r s.host.data)).closedBy_keeps i r
  have hbefore : s.takerBefore r i =
      { state := .filling, region := .entry r.region, home := some r.home, length := r.length, image := (s.slot i).image,
        written := 0, openNumber := s.stage.openCounter, waitsOn := none, group := none } :=
    if_neg (by rw [hi]; nofun)
  rw [hbefore] at hwritten hregion hhome hopen
  rw [hwrite]
  refine ⟨rfl, kregion.trans hregion, khome.trans hhome, kopen.trans hopen, ?_, ?_⟩
  · change (((s.setStage (s.stage.taken i r s.host.data)).closedBy i r).slot i).byte r.offset = s.host.data
    rw [Slot.byte, kimage]
    exact hbyte
  · change (((s.setStage (s.stage.taken i r s.host.data)).closedBy i r).slot i).written.getLsbD r.offset = true
    rw [kwritten]
    change (s.stage.taken i r s.host.data).slots[i].written.getLsbD r.offset = true
    rw [hwritten]
    simp [ho]

/-- The lowest of the slots with some property. -/
theorem exists_lowest {p : Fin 8 → Prop} (h : ∃ i, p i) : ∃ i, p i ∧ ∀ k, k < i → ¬p k := by
  classical
  obtain ⟨i, hi⟩ := h
  exact ⟨WellFounded.min wellFounded_lt {k | p k} ⟨i, hi⟩, WellFounded.min_mem _ {k | p k} ⟨i, hi⟩,
    fun k hk hp => WellFounded.not_lt_min wellFounded_lt {k | p k} hp hk⟩

/-! ## The choices that follow -/

/-- `t` is what the arbiter's choices make of `u`: the store stays, and of the host port only a request can be granted. -/
def State.grantsTo (u t : State) : Prop :=
  t.stage = u.stage ∧ t.host.hold = u.host.hold
    ∧ (t.host.phase = u.host.phase ∨ u.host.phase = .waiting ∧ t.host.phase = .access)

theorem State.grantsTo_refl (u : State) : u.grantsTo u :=
  ⟨rfl, rfl, .inl rfl⟩

theorem State.grantsTo_grant (u : State) : u.grantsTo u.grant := by
  rcases u.grant_cases with e | ⟨r, a, -, hw, e⟩ | ⟨a, -, -, e⟩
  · rw [e]
    exact u.grantsTo_refl
  · rw [e]
    cases r with
    | host => exact ⟨rfl, rfl, .inr ⟨(State.hostWants_cases hw).1, rfl⟩⟩
    | writer => exact ⟨rfl, rfl, .inl rfl⟩
    | applier => exact ⟨rfl, rfl, .inl rfl⟩
  · rw [e]
    exact ⟨rfl, rfl, .inl rfl⟩

theorem State.grantsTo_grantBy (u : State) (o : Order) : u.grantsTo (u.grantBy o) := by
  rcases u.grantBy_cases o with ⟨e, -⟩ | e
  · rw [e]; exact u.grantsTo_refl
  · rw [e]; exact u.grantsTo_grant

/-- R52: a write in the slot hold in `s`, decoded afresh in a state `u` that frees the slots of `free` and has no other
FILLING slots than `s`, is served. -/
theorem State.heldWriteServed_of {free : Fin 8 → Prop} (hhold : u.holdsForSlot) (hhost : u.host = s.host)
    (hctrl : u.ctrl.straps = s.ctrl.straps) (htable : u.table = s.table)
    (hopen : u.stage.openCounter = s.stage.openCounter) (hfree : ∀ i, (u.slot i).state = .free ↔ free i)
    (hfill : ∀ k, (u.slot k).state = .filling → u.slot k = s.slot k) (hex : ∃ i, free i)
    (ht : u.serve.grantsTo t) : s.heldWriteServed t free := by
  obtain ⟨ho, -, -, hk⟩ := hhold
  obtain ⟨i, hi, hlow⟩ := exists_lowest hex
  obtain ⟨htstage, hthold, htphase⟩ := ht
  have hlook : u.lookup = s.lookup := by
    funext a
    unfold State.lookup State.base
    rw [hctrl, htable]
  have hsome : u.stage.lowestFree ≠ none := fun h => Staging.lowestFree_eq_none.1 h i ((hfree i).2 hi)
  obtain ⟨hnone, hph⟩ := State.serve_unheld ho hsome
  refine ⟨hthold.trans hnone, ?_, fun r hr hoff hnofill => ?_⟩
  · rcases htphase with h | ⟨-, h⟩
    · rwa [h]
    · rw [h]; nofun
  · have hserve : u.serve = (u.setHost { u.host with found := some (u.lookup u.host.addr.toNat) }).stageWrite r :=
      State.serve_recordWrite ho hk (by rw [hlook, hhost]; exact hr)
    obtain ⟨hans, hregion, hhome, hnum, hbyte, hwritten⟩ := State.stageWrite_allocates
      (s := u.setHost { u.host with found := some (u.lookup u.host.addr.toNat) }) (r := r) (i := i) hoff
      (fun k hkf => by
        have e : u.slot k = s.slot k := hfill k hkf
        change (u.slot k).ofRecord r.region r.home = false
        rw [e]
        exact hnofill k (e ▸ hkf))
      ((hfree i).2 hi) (fun k hlt hf => hlow k hlt ((hfree k).1 hf))
    rw [← hserve] at hans hregion hhome hnum hbyte hwritten
    have hslot : t.slot i = u.serve.slot i := congrArg (fun g : Staging => g.slots[i]) htstage
    refine ⟨?_, i, hi, hlow, ?_⟩
    · rcases htphase with h | ⟨h, -⟩
      · rw [h, hans]
      · rw [hans] at h; cases h
    · rw [hslot]
      exact ⟨hregion, hhome, hnum.trans hopen, hbyte.trans (show u.host.data = s.host.data from congrArg _ hhost), hwritten⟩

/-! ## The two ways to it -/

theorem State.endSlotHold_of_holdsForSlot (h : s.holdsForSlot) (hfree : s.stage.lowestFree ≠ none) :
    s.endSlotHold = s.serve := by
  rw [State.endSlotHold, if_pos (Option.isSome_iff_ne_none.2 hfree), State.redecodeHeld_of_holdsForSlot h]

/-- R52: STORE PROFILE does not come first where it does not come next. -/
theorem State.storeProfileNext_of_head (h : s.pending.head? ≠ some .storeProfile) : s.storeProfileNext = false := by
  simp [State.storeProfileNext, h]

/-- R38, R52: the choice, then the held write's fresh decode in the port that the choice leaves, then a choice again. -/
theorem State.chooseThenHeld_serves (h : s.holdsForSlot) (hfree : s.stage.lowestFree ≠ none)
    (hnext : s.pending.head? ≠ some .storeProfile) :
    ∃ p, (s.setPort p).serve.grantsTo s.chooseThenHeld := by
  have ⟨ho, hp, hh, hk⟩ := h
  obtain ⟨p, hgrant, -⟩ := State.grant_port_only (s := s) (by rw [hp]; nofun)
  have hheld : (s.setPort p).holdsForSlot := ⟨ho, hp, hh, hk⟩
  refine ⟨p, ?_⟩
  unfold State.chooseThenHeld
  dsimp only
  rw [hgrant, State.storeProfileNext_of_head (s := s.setPort p) hnext, if_neg (by decide),
    State.endSlotHold_of_holdsForSlot hheld hfree]
  exact State.grantsTo_grant _

end Sys2Proof.Machine
end

section
/-! SUPPORT. The engines' takes: a placement (R94 to R96, R111) and the held span (R92, R93), and the Applier's take (R118). -/

namespace Sys2Proof.Machine

variable {s u : State}

/-! ## What a take leaves to a held write -/

/-- R38, R52: after an act `u` of an engine on `s`, the write in the slot hold is served by the slots that are FREE then. -/
theorem State.chooseThenHeld_heldWriteServed {free : Fin 8 → Prop} (hhold : s.holdsForSlot) (hhost : u.host = s.host)
    (hctrl : u.ctrl = s.ctrl) (htable : u.table = s.table) (hpend : u.pending = s.pending)
    (hopen : u.stage.openCounter = s.stage.openCounter) (hfree : ∀ i, (u.slot i).state = .free ↔ free i)
    (hfill : ∀ k, (u.slot k).state = .filling → u.slot k = s.slot k) (hex : ∃ i, free i)
    (hnext : s.pending.head? ≠ some .storeProfile) : s.heldWriteServed u.chooseThenHeld free := by
  have hu : u.holdsForSlot := by
    obtain ⟨ho, hp, hh, hk⟩ := hhold
    exact ⟨hctrl ▸ ho, hhost ▸ hp, hhost ▸ hh, hhost ▸ hk⟩
  have hsome : u.stage.lowestFree ≠ none := fun h => by
    obtain ⟨i, hi⟩ := hex
    exact Staging.lowestFree_eq_none.1 h i ((hfree i).2 hi)
  obtain ⟨p, hgrants⟩ := State.chooseThenHeld_serves hu hsome (hpend ▸ hnext)
  exact State.heldWriteServed_of (u := u.setPort p) hu hhost (congrArg Controller.straps hctrl) htable hopen hfree hfill hex
    hgrants

/-- With nothing in the slot hold, or no slot FREE, only the arbiter's choice follows a take. -/
theorem State.chooseThenHeld_of_quiet (hhost : u.host = s.host)
    (hfree : ∀ i : Fin 8, (u.slot i).state = .free → (s.slot i).state = .free)
    (h : s.host.hold ≠ some .slot ∨ ∀ i : Fin 8, (s.slot i).state ≠ .free) : u.chooseThenHeld = u.grant :=
  State.chooseThenHeld_of_hold (h.imp (fun h => hhost ▸ h) fun h =>
    Staging.lowestFree_eq_none.2 fun i hi => h i (hfree i hi))

/-! ## A placement (R94, R95, R111) -/

theorem Journal.rangeFree_iff {g : Journal} {j a n : Nat} :
    g.rangeFree j a n = true ↔ ∀ o, a ≤ o → o < a + n → g.holds j o = false := by
  simp only [Journal.rangeFree, List.all_eq_true, List.mem_range, Bool.not_eq_true']
  refine ⟨fun h o ha ho => ?_, fun h k hk => h (a + k) (by omega) (by omega)⟩
  have := h (o - a) (by omega)
  rwa [Nat.add_sub_cancel' ha] at this

theorem Journal.rangeFree_eq_false {g : Journal} {j a n o : Nat} (ha : a ≤ o) (ho : o < a + n) (h : g.holds j o = true) :
    g.rangeFree j a n = false := by
  by_contra hc
  rw [Journal.rangeFree_iff.1 (by simpa using hc) o ha ho] at h
  cases h

/-- R94: in line, where the entry ends by J. -/
theorem Journal.place_inline {g : Journal} {j l : Nat} (hl : g.tail + l ≤ j) :
    g.place j l = if g.rangeFree j g.tail l then some (g.tail, none) else none :=
  if_pos hl

/-- R94, R95: at 0, with a PAD where the tail is below J. -/
theorem Journal.place_wrap {g : Journal} {j l : Nat} (hl : j < g.tail + l) :
    g.place j l = if g.rangeFree j 0 l then some (0, if g.tail < j then some g.tail else none) else none :=
  if_neg (by omega)

/-- R95: a wrap passes over the bytes from the tail to J. -/
theorem Journal.placed_wrap {g : Journal} {j l : Nat} :
    g.placed j l 0 (if g.tail < j then some g.tail else none)
      = { g with tail := l, held := g.held + (j - g.tail) + l } := by
  unfold Journal.placed
  split_ifs with ht
  · simp
  · simp [(by omega : j - g.tail = 0)]

/-- R111: the Writer after a placement. -/
def State.placedWriter (s : State) (pos : Nat) (pad : Option Nat) : Writer :=
  { s.writer with
    phase := .write, pos := pos, padAt := pad, seq := s.journal.nextWrite,
    check := entryCheck s.journal.nextWrite s.writer.slots.length s.writer.length (s.stage.segments s.writer.slots),
    idx := 0 }

theorem State.placeEntry_of_some {pos : Nat} {pad : Option Nat}
    (h : s.journal.place s.journalLength s.writer.length = some (pos, pad)) :
    s.placeEntry = (s.setJournal (s.journal.placed s.journalLength s.writer.length pos pad)).setWriter
      (s.placedWriter pos pad) := by
  simp only [State.placeEntry, h]
  rfl

theorem State.placeEntry_of_none (h : s.journal.place s.journalLength s.writer.length = none) : s.placeEntry = s := by
  simp only [State.placeEntry, h]

/-- R111: WRITER_PLACE in PLACE. -/
theorem exec_writerPlace (hs : s.supply = true) (ho : s.ctrl.opState = .running) (hp : s.writer.phase = .place) :
    exec .writerPlace s = .next s.placeEntry.chooseThenHeld := by
  simp [exec, execWriterPlace, State.writerPlacing, hs, ho, hp]

/-! ## The held span (R92, R93) -/

/-- Two positions of the journal that are the same offset. -/
theorem mod_eq_cases {x y j : Nat} (hj : 0 < j) (hx : x ≤ 2 * j) (hy : y ≤ j) (h : x % j = y % j) :
    x = y ∨ x = y + j ∨ x + j = y ∨ x = y + 2 * j := by
  have hxd := Nat.div_add_mod x j
  have hyd := Nat.div_add_mod y j
  have hxq : x / j ≤ 2 := Nat.div_le_of_le_mul (by omega)
  have hyq : y / j ≤ 1 := Nat.div_le_of_le_mul (by omega)
  have hlt := Nat.mod_lt y hj
  generalize x / j = q at *
  generalize y / j = r at *
  obtain rfl | rfl | rfl : q = 0 ∨ q = 1 ∨ q = 2 := by omega
  all_goals obtain rfl | rfl : r = 0 ∨ r = 1 := by omega
  all_goals omega

/-- R92: an offset that is not held lies at least the held count from the head. -/
theorem Journal.le_of_not_holds {g : Journal} {j o : Nat} (h : g.holds j o = false) :
    g.held ≤ forwardDistance j g.head o := by
  simpa [Journal.holds] using h

/-- R94: an entry in line leaves the held count within J. -/
theorem Journal.spanRight.inline {g : Journal} {j l : Nat} (h : g.spanRight j) (hl : g.tail + l ≤ j) (hl0 : 0 < l)
    (hfree : ∀ o, g.tail ≤ o → o < g.tail + l → g.holds j o = false) : g.held + l ≤ j := by
  obtain ⟨hhead, htail, hheld, hmod⟩ := h
  by_contra hc
  have hd := Journal.le_of_not_holds (hfree (g.tail + (j - g.held)) (by omega) (by omega))
  have hcase := mod_eq_cases (by omega) (by omega) htail hmod
  unfold forwardDistance at hd
  dsimp only at hd
  split_ifs at hd <;> omega

/-- R95: an entry at 0 leaves the held count, with the PAD's bytes, within J. -/
theorem Journal.spanRight.wrap {g : Journal} {j l : Nat} (h : g.spanRight j) (hl : j < g.tail + l) (hl0 : 0 < l)
    (hlj : 2 * l ≤ j) (hfree : ∀ o, o < l → g.holds j o = false) : g.held + (j - g.tail) + l ≤ j := by
  obtain ⟨hhead, htail, hheld, hmod⟩ := h
  have hcase := mod_eq_cases (by omega) (by omega) htail hmod
  have hzero := Journal.le_of_not_holds (hfree 0 hl0)
  by_contra hc
  have hle : g.held ≤ g.tail := by
    unfold forwardDistance at hzero
    dsimp only at hzero
    split_ifs at hzero <;> omega
  have hd := Journal.le_of_not_holds (hfree (g.tail - g.held) (by omega))
  unfold forwardDistance at hd
  dsimp only at hd
  split_ifs at hd <;> omega

/-- R93: the tail stays the end of the held span. -/
theorem Journal.spanRight.placed {g : Journal} {j l pos : Nat} {pad : Option Nat} (h : g.spanRight j) (hl0 : 0 < l)
    (hlj : 2 * l ≤ j) (hplace : g.place j l = some (pos, pad)) : (g.placed j l pos pad).spanRight j := by
  have ⟨hhead, htail, hheld, hmod⟩ := h
  by_cases hl : g.tail + l ≤ j
  · rw [Journal.place_inline hl] at hplace
    split at hplace
    · rename_i hfree
      obtain ⟨rfl, rfl⟩ : g.tail = pos ∧ none = pad := by simpa using hplace
      have hend : (g.head + (g.held + l)) % j = (g.tail + l) % j := by
        rw [← Nat.add_assoc]
        exact Nat.ModEq.add_right l hmod
      exact ⟨hhead, hl, h.inline hl hl0 (Journal.rangeFree_iff.1 hfree), hend⟩
    · cases hplace
  · rw [Journal.place_wrap (by omega)] at hplace
    split at hplace
    · rename_i hfree
      obtain ⟨rfl, hpad⟩ : 0 = pos ∧ (if g.tail < j then some g.tail else none) = pad := by simpa using hplace
      subst hpad
      have hwrap := h.wrap (by omega) hl0 hlj fun o ho => Journal.rangeFree_iff.1 hfree o (Nat.zero_le o) (by omega)
      have hend : (g.head + (g.held + (j - g.tail) + l)) % j = l % j := by
        have hshift := Nat.ModEq.add_right (j - g.tail + l) hmod
        rw [show g.tail + (j - g.tail + l) = l + j by omega] at hshift
        rw [show g.head + (g.held + (j - g.tail) + l) = g.head + g.held + (j - g.tail + l) by omega]
        exact hshift.trans (Nat.add_mod_right l j)
      rw [Journal.placed_wrap]
      exact ⟨hhead, (by omega : l ≤ j), hwrap, hend⟩
    · cases hplace

/-! ## The Applier's take (R118) -/

/-- R118: the Applier after a take. -/
theorem exec_applierTakeEntry {e : LiveEntry} {rest : List LiveEntry} (hs : s.supply = true)
    (ho : s.ctrl.opState = .running) (hp : s.applier.phase = .idle) (hl : s.journal.live = e :: rest) :
    exec .applierTakeEntry s = .next ((s.setStage (s.stage.setStates e.group.slots .applying)).setApplier
      { phase := .home, seg := 0, idx := 0, retry := 0, resuming := false }).chooseThenHeld := by
  simp [exec, execApplierTakeEntry, State.applierFree, hs, ho, hp, hl, Applier.idle]

/-- Slots that go to a state other than FREE: those FREE afterwards were FREE and are not among them. -/
theorem Staging.setStates_free {g : Staging} {is : List (Fin 8)} {st : SlotState} (hst : st ≠ .free) (i : Fin 8) :
    (g.setStates is st).slots[i].state = .free ↔ i ∉ is ∧ g.slots[i].state = .free := by
  obtain ⟨hin, hout, -⟩ := g.setStates_cases is st
  by_cases hi : i ∈ is
  · rw [hin i hi]
    simp [hi, hst]
  · rw [hout i hi]
    simp [hi]

/-- Slots that go to a state other than FILLING: a slot FILLING afterwards is as it was. -/
theorem Staging.setStates_filling {g : Staging} {is : List (Fin 8)} {st : SlotState} (hst : st ≠ .filling) {i : Fin 8}
    (h : (g.setStates is st).slots[i].state = .filling) : (g.setStates is st).slots[i] = g.slots[i] := by
  obtain ⟨hin, hout, -⟩ := g.setStates_cases is st
  by_cases hi : i ∈ is
  · rw [hin i hi] at h
    exact absurd h hst
  · exact hout i hi

end Sys2Proof.Machine

open Sys2Proof Sys2Proof.Machine

/-- Settles O39: R94's conditions are exclusive, so each gives its placement. -/
theorem writerPlacesEntry : Obligations.WriterPlacesEntry := by
  unfold Obligations.WriterPlacesEntry
  intro s hs ho hp j l t check
  have hexec := exec_writerPlace hs ho hp
  refine ⟨fun hhold hex hnext => ⟨_, hexec, ?_⟩, fun hquiet => ⟨fun hl hfree => ?_, fun hl hfree => ?_, fun hin hwrap => ?_⟩⟩
  · exact State.chooseThenHeld_heldWriteServed hhold (by simp) (by simp) (by simp) (by simp) (by simp)
      (fun i => by simp [State.slot]) (fun k _ => by simp [State.slot]) hex hnext
  all_goals
    rw [hexec, State.chooseThenHeld_of_quiet (s := s) (by simp) (fun i hi => by simpa [State.slot] using hi) hquiet]
  · have hplace := (Journal.place_inline hl).trans (if_pos (Journal.rangeFree_iff.2 hfree))
    rw [State.placeEntry_of_some hplace]
    rfl
  · have hplace := (Journal.place_wrap hl).trans (if_pos (Journal.rangeFree_iff.2 fun o _ ho => hfree o (by omega)))
    rw [State.placeEntry_of_some hplace, Journal.placed_wrap]
    rfl
  · have hplace : s.journal.place s.journalLength s.writer.length = none := by
      by_cases hl : t + l ≤ j
      · obtain ⟨o, ha, hlt, hh⟩ := hin hl
        rw [Journal.place_inline hl, Journal.rangeFree_eq_false ha hlt hh]
        rfl
      · obtain ⟨o, hlt, hh⟩ := hwrap (by omega)
        rw [Journal.place_wrap (by omega), Journal.rangeFree_eq_false (Nat.zero_le o) (by omega) hh]
        rfl
    rw [State.placeEntry_of_none hplace]

/-- Settles O40: a placement that finds its range free takes no held byte. -/
theorem placementKeepsHeldSpan : Obligations.PlacementKeepsHeldSpan := by
  unfold Obligations.PlacementKeepsHeldSpan
  intro s t h h14 h536 hexec
  have hj := journalSize_ge s.ctrl.straps
  have hplaced : s.placeEntry.journal.spanRight s.journalLength := by
    cases hp : s.journal.place s.journalLength s.writer.length with
    | none => rwa [State.placeEntry_of_none hp]
    | some x =>
      rw [State.placeEntry_of_some hp]
      exact h.placed (by omega) (by unfold State.journalLength; omega) hp
  simp only [exec, execWriterPlace] at hexec
  split at hexec <;> cases hexec
  · simpa using hplaced
  · exact h

/-- Settles O41: the head entry's slots go to APPLYING, which frees none and fills none. -/
theorem applierTakesHeadEntry : Obligations.ApplierTakesHeadEntry := by
  unfold Obligations.ApplierTakesHeadEntry
  intro s e rest hs ho hp hl
  have hexec := exec_applierTakeEntry hs ho hp hl
  obtain ⟨hin, hout, hq, hh, hc, hopen⟩ := s.stage.setStates_cases e.group.slots .applying
  refine ⟨fun hhold hex hnext => ⟨_, hexec, ?_⟩, fun hquiet => ?_⟩
  · exact State.chooseThenHeld_heldWriteServed hhold rfl rfl rfl rfl hopen
      (fun i => Staging.setStates_free (by decide) i) (fun k hk => Staging.setStates_filling (by decide) hk) hex hnext
  · rw [State.chooseThenHeld_of_quiet (s := s) ?_ ?_ hquiet] at hexec
    · exact ⟨_, hexec, hin, hout, hq, hh, hc, hopen⟩
    · rfl
    · exact fun i hi =>
        ((Staging.setStates_free (g := s.stage) (is := e.group.slots) (st := .applying) nofun i).1 hi).2
end

section
/-! SUPPORT. What an engine makes of its completed access: a step done, the entry logged (R115), a compare failed (R116, R123),
and the entry to FAULTED (R124). -/

namespace Sys2Proof.Machine

variable {s : State}

/-! ## The result of a step -/

/-- A compare that fails. -/
theorem stepResult_unequal {prog : List MemStep} {idx : Nat} {b : Byte} {m : MemStep} (hm : prog[idx]? = some m)
    (hv : m.verify = true) (hb : b ≠ m.byte) : stepResult prog idx b = .unequal m.addr := by
  simp [stepResult, hm, hv, hb]

/-- The last step, its byte equal where it is compared. -/
theorem stepResult_last {prog : List MemStep} {idx : Nat} {b : Byte} {m : MemStep} (hm : prog[idx]? = some m)
    (hb : b = m.byte) (hl : idx + 1 = prog.length) : stepResult prog idx b = .done := by
  simp [stepResult, hm, hb, hl]

/-- A step before the last, its byte equal where it is compared. -/
theorem stepResult_more {prog : List MemStep} {idx : Nat} {b : Byte} {m : MemStep} (hm : prog[idx]? = some m)
    (hb : m.verify = true → b = m.byte) (hl : idx + 1 < prog.length) : stepResult prog idx b = .more := by
  have hcmp : (m.verify && b != m.byte) = false := by
    cases hv : m.verify
    · rfl
    · simp [hb hv]
  simp [stepResult, hm, hcmp, hl]

/-- The Writer's byte in a phase with a sequence. -/
theorem State.writerTake_step (b : Byte) (o : Order) (hp : s.writer.phase ∈ [WriterPhase.write, .verify, .mark]) :
    s.writerTake b o
      = if s.writer.resuming then s.writerResume (stepResult s.writerProgram s.writer.idx b) o
        else s.writerAdvance (stepResult s.writerProgram s.writer.idx b) o := by
  unfold State.writerTake
  simp only [List.mem_cons, List.not_mem_nil, or_false] at hp
  rcases hp with hp | hp | hp <;> rw [hp]

/-! ## The entry logged (R115) -/

theorem State.entryLogged_eq {grp : Group} (hg : s.writer.group = some grp) :
    s.entryLogged = ((s.setStage (s.stage.setStates grp.slots .logged)).setJournal
      { s.journal with
        live := s.journal.live
          ++ [{ pos := s.writer.pos, length := s.writer.length, seq := s.writer.seq, group := grp }],
        nextWrite := s.journal.nextWrite + 1 }).setWriter Writer.idle := by
  simp only [State.entryLogged, hg]
  rfl

/-- R114, R115, R127: the VALID mark read back equal logs the entry, at a RESUME as well. -/
theorem State.writerTake_validMark {b : Byte} {grp : Group} (o : Order) (hp : s.writer.phase = .mark) (hi : s.writer.idx = 1)
    (hg : s.writer.group = some grp) (hb : b = 0xA5) : s.writerTake b o = s.entryLogged := by
  have hprog : s.writerProgram = markSteps (s.journalAddr s.writer.pos) markValid := by
    simp only [State.writerProgram, hp]
  have hstep : stepResult s.writerProgram s.writer.idx b = .done := by
    rw [hprog, hi]
    exact stepResult_last (m := { addr := s.journalAddr s.writer.pos, byte := markValid, verify := true }) rfl hb rfl
  have hadvance : s.writerAdvance .done o = s.entryLogged := by
    simp only [State.writerAdvance, hp]
  have hresume : s.writerResume .done o = s.entryLogged := by
    simp only [State.writerResume, hadvance, State.entryLogged_eq hg]
    rfl
  rw [State.writerTake_step b o (by simp [hp]), hstep]
  split
  · exact hresume
  · exact hadvance

/-! ## The entry to FAULTED (R124) -/

/-- R53: a write in the slot hold is refused at the entry to FAULTED. -/
theorem State.refuseSlotHold_of_holding (hp : s.host.phase = .holding) (hh : s.host.hold = some .slot) :
    s.refuseSlotHold = (s.writeDenied deniedFaulted (s.host.found.bind Lookup.region)).answerWrite := by
  simp only [State.refuseSlotHold, hp, hh]

theorem State.refuseSlotHold_of_not (h : ¬(s.host.phase = .holding ∧ s.host.hold = some .slot)) : s.refuseSlotHold = s := by
  unfold State.refuseSlotHold
  split
  · exact absurd ⟨‹_›, ‹_›⟩ h
  · rfl

/-- In FAULTED only the arbiter's choice follows an access. -/
theorem State.afterAccess_of_faulted {o : Order} (ho : s.ctrl.opState = .faulted)
    (hord : o ∈ [Order.heldFirst, .heldThenTake]) : s.afterAccess o = s.grant := by
  have hend : s.endSlotHold = s := by
    unfold State.endSlotHold State.redecodeHeld
    split
    · split
      · rename_i hr; rw [ho] at hr; cases hr
      · rfl
    · rfl
  have htake : s.takeNext = false := by
    unfold State.takeNext
    split <;> simp [State.writerFree, State.writerPlacing, State.applierFree, ho]
  simp only [List.mem_cons, List.not_mem_nil, or_false] at hord
  rcases hord with rfl | rfl <;> simp [State.afterAccess, hend, State.grantBy, htake]

/-- R53, R124, R136: what the entry to FAULTED for a second failure makes of the host port and the events, in the orders
in which it comes before another grant. -/
theorem State.enterFaulted_effect {done : State} (hevents : done.events = s.events) (hctrl : done.ctrl = s.ctrl)
    (hhost : done.host = s.host) (htable : done.table = s.table) (second : EventReport) (c : FaultCause) (e : Requester)
    {o : Order} (hord : o ∈ [Order.heldFirst, .heldThenTake]) :
    ∃ h ev, ((done.logEvent second).enterFaulted c e o).afterAccess o = (((done.setHost h).setCtrl
          { s.ctrl with opState := .faulted, hrsto := false, cause := c }).setEvents ev).grant
      ∧ (s.host.hold ≠ some .slot →
          h = s.host ∧ ev = ((s.events.arrive second).arrive
            { kind := .faulted, detail := c.code, region := none, address := none, count := 0 }).evaluate s.table.mask)
      ∧ (s.host.phase = .holding → s.host.hold = some .slot →
          h = { s.host with phase := .answered, hold := none, hd := none }
            ∧ ev = (((s.events.arrive second).arrive
                { kind := .faulted, detail := c.code, region := none, address := none, count := 0 }).arrive
                { kind := .writeDenied, detail := 0x02,
                  region := s.host.found.bind Lookup.region, address := some s.host.addr,
                  count := 0 }).evaluate s.table.mask) := by
  have henter : (done.logEvent second).enterFaulted c e o
      = ((done.setCtrl { s.ctrl with opState := .faulted, hrsto := false, cause := c }).setEvents
        (((s.events.arrive second).arrive
          { kind := .faulted, detail := c.code, region := none, address := none, count := 0 }).evaluate
            s.table.mask)).refuseSlotHold := by
    have hnogrant : (done.logEvent second).enterFaulted c e o
        = ((((done.logEvent second).enterState .faulted).setCtrl
          { ((done.logEvent second).enterState .faulted).ctrl with cause := c }).logEvent
          { kind := .faulted, detail := c.code, region := none, address := none, count := 0 }).refuseSlotHold := by
      simp only [List.mem_cons, List.not_mem_nil, or_false] at hord
      rcases hord with rfl | rfl <;> rfl
    rw [hnogrant]
    congr 1
    simp [State.logEvent_eq, State.enterState, hevents, hctrl, htable, OpState.holdsHost]
    rfl
  have hfaulted : ((done.logEvent second).enterFaulted c e o).ctrl.opState = .faulted := by
    simp [henter]
  rw [State.afterAccess_of_faulted hfaulted hord, henter]
  by_cases hheld : s.host.phase = .holding ∧ s.host.hold = some .slot
  · rw [State.refuseSlotHold_of_holding (by simpa [hhost] using hheld.1) (by simpa [hhost] using hheld.2)]
    refine ⟨{ s.host with phase := .answered, hold := none, hd := none }, _, ?_, fun h => absurd hheld.2 h,
      fun _ _ => ⟨rfl, rfl⟩⟩
    congr 1
    simp [State.writeDenied, State.logEvent_eq, State.answerWrite, deniedFaulted, hhost, htable]
    rfl
  · rw [State.refuseSlotHold_of_not (by simpa [hhost] using hheld)]
    refine ⟨s.host, _, ?_, fun _ => ⟨rfl, rfl⟩, fun h1 h2 => absurd ⟨h1, h2⟩ hheld⟩
    rw [← hhost]
    rfl

end Sys2Proof.Machine

open Sys2Proof Sys2Proof.Machine

/-- Settles O42: the mark's readback is the last step of MARK, and its byte is the mark. -/
theorem validMarkReadBackLogsEntry : Obligations.ValidMarkReadBackLogsEntry := by
  unfold Obligations.ValidMarkReadBackLogsEntry
  intro s a ord grp hs ha how hop hm hp hi hg hb hhold
  obtain ⟨hin, hout, hq, hh, hc, hopen⟩ := s.stage.setStates_cases grp.slots .logged
  refine ⟨s.stage.setStates grp.slots .logged, ?_, hin, hout, hq, hh, hc, hopen⟩
  rw [exec_accessComplete_ok ord hs ha hm, how, State.accessDone_read hop, State.accessByte_read hop, State.deliver,
    State.writerTake_validMark (grp := grp) ord (by simpa using hp) (by simpa using hi) (by simpa using hg) hb,
    State.entryLogged_eq (grp := grp) (by simpa using hg), State.afterAccess_of_hold ord (.inl (by simpa using hhold))]
  rfl
end

section
/-! SUPPORT. The compare failures of the engines (R116, R123), and the anchor write (R97, R101, R122). -/

namespace Sys2Proof.Machine

variable {s : State}

/-! ## Compare failures (R116, R123) -/

/-- R116: what the Writer makes of a byte that does not compare equal. -/
theorem State.writerTake_unequal {b : Byte} {m : MemStep} (o : Order)
    (hp : s.writer.phase ∈ [WriterPhase.verify, .mark]) (hm : s.writerProgram[s.writer.idx]? = some m)
    (hres : s.writer.resuming = false) (hv : m.verify = true) (hb : b ≠ m.byte) :
    s.writerTake b o = s.journalFault m.addr o := by
  rw [State.writerTake_step b o (List.mem_cons_of_mem _ hp), stepResult_unequal hm hv hb, hres]
  rfl

theorem State.journalFault_first {addr : Nat} {o : Order} (ho : s.ctrl.opState = .running) (hr : s.writer.retry = 0) :
    s.journalFault addr o = (s.logJournalFault detailFirst addr).setWriter
      { s.writer with retry := 1, phase := .write, idx := 0 } := by
  rw [State.journalFault, if_pos ho, if_pos hr]
  rfl

theorem State.journalFault_second {addr : Nat} {o : Order} (ho : s.ctrl.opState = .running) (hr : s.writer.retry = 1) :
    s.journalFault addr o = (s.logJournalFault detailSecond addr).enterFaulted .journal .writer o := by
  rw [State.journalFault, if_pos ho, if_neg (by omega)]

/-- R123: what the Applier makes of a byte that does not compare equal. -/
theorem State.applierTake_unequal {b : Byte} {m : MemStep} (o : Order) (hm : s.applierProgram[s.applier.idx]? = some m)
    (hres : s.applier.resuming = false) (hv : m.verify = true) (hb : b ≠ m.byte) :
    s.applierTake b o = s.applyFault m.addr o := by
  simp only [State.applierTake, stepResult_unequal hm hv hb, hres]
  rfl

/-- R123: the event of an Applier's compare failure. -/
def State.applyFaultEvent (s : State) (detail : Byte) (addr : Nat) : EventReport :=
  { kind := .applyFault, detail := detail, region := s.applyFaultRegion, address := some (toAddr addr),
    count := lowByte s.applierSeq }

theorem State.applyFault_first {addr : Nat} {o : Order} (ho : s.ctrl.opState = .running) (hr : s.applier.retry = 0) :
    s.applyFault addr o = (s.logEvent (s.applyFaultEvent detailFirst addr)).setApplier
      { s.applier with retry := 1, idx := 0 } := by
  rw [State.applyFault, if_pos ho, if_pos hr]
  rfl

theorem State.applyFault_second {addr : Nat} {o : Order} (ho : s.ctrl.opState = .running) (hr : s.applier.retry = 1) :
    s.applyFault addr o
      = (s.logEvent (s.applyFaultEvent detailSecond addr)).enterFaulted .apply .applier o := by
  rw [State.applyFault, if_pos ho, if_neg (by omega)]
  rfl

/-- R123: the region of the event is that of the segment's slot in HOME. -/
theorem State.applyFaultRegion_eq {e : LiveEntry} {rest : List LiveEntry} (hl : s.journal.live = e :: rest) :
    s.applyFaultRegion = (match s.applier.phase, e.group.slots[s.applier.seg]? with
      | .home, some i =>
        match (s.slot i).region with
        | .entry k => some k
        | _ => none
      | _, _ => none) := by
  have hslot : s.applierSlot = e.group.slots[s.applier.seg]? := by simp [State.applierSlot, hl]
  unfold State.applyFaultRegion
  rw [hslot]
  cases s.applier.phase <;> cases e.group.slots[s.applier.seg]? <;> try rfl
  rename_i i
  dsimp only
  cases (s.slot i).region <;> rfl

theorem State.applierSeq_eq {e : LiveEntry} {rest : List LiveEntry} (hl : s.journal.live = e :: rest) :
    s.applierSeq = e.seq := by
  simp [State.applierSeq, hl]

end Sys2Proof.Machine

open Sys2Proof Sys2Proof.Machine

/-- Settles O43: the step is repeated once; the second failure enters FAULTED. -/
theorem journalFaultRetriesThenFaults : Obligations.JournalFaultRetriesThenFaults := by
  unfold Obligations.JournalFaultRetriesThenFaults
  intro s a m hs ho ha hop hm hv hb done faulted
  have hexec : ∀ ord, exec (.memoryAccessComplete .ok ord) s
      = .next ((done.deliver a.owner (s.mem.read a.addr) ord).afterAccess ord) := fun ord => by
    rw [exec_accessComplete_ok ord hs ha hm, State.accessDone_read hop, State.accessByte_read hop]
  refine ⟨?_, ?_⟩
  · intro how hp hprog hres fault
    have htake : ∀ ord, done.deliver a.owner (s.mem.read a.addr) ord = done.journalFault m.addr ord := fun ord => by
      rw [how, State.deliver]
      exact State.writerTake_unequal (s := done) ord hp hprog hres hv hb
    refine ⟨fun hr hhold ord => ?_, fun hr ord hord => ?_⟩
    · rw [hexec, htake, State.journalFault_first (s := done) ho hr, State.afterAccess_of_hold ord (.inl (by exact hhold))]
      rfl
    · obtain ⟨h, ev, heq, hcase⟩ := State.enterFaulted_effect (s := s) (done := done) rfl rfl rfl rfl (fault 0x02)
        .journal .writer hord
      refine ⟨h, ev, ?_, hcase⟩
      rw [hexec, htake, State.journalFault_second (s := done) ho hr, ← heq]
      rfl
  · intro e rest how hp hprog hres hl region fault
    have htake : ∀ ord, done.deliver a.owner (s.mem.read a.addr) ord = done.applyFault m.addr ord := fun ord => by
      rw [how, State.deliver]
      exact State.applierTake_unequal (s := done) ord hprog hres hv hb
    have hfault : ∀ d, done.applyFaultEvent d m.addr = fault d := fun d => by
      rw [State.applyFaultEvent, State.applyFaultRegion_eq (s := done) hl, State.applierSeq_eq (s := done) hl]
      rfl
    refine ⟨fun hr hhold ord => ?_, fun hr ord hord => ?_⟩
    · rw [hexec, htake, State.applyFault_first (s := done) ho hr, State.afterAccess_of_hold ord (.inl (by exact hhold)), hfault]
      rfl
    · obtain ⟨h, ev, heq, hcase⟩ := State.enterFaulted_effect (s := s) (done := done) rfl rfl rfl rfl (fault 0x02)
        .apply .applier hord
      refine ⟨h, ev, ?_, hcase⟩
      rw [hexec, htake, State.applyFault_second (s := done) ho hr, hfault, ← heq]
      rfl
end

section
/-! SUPPORT. The anchor write of the Applier (R97, R101, R121, R122), and what follows it (R38, R52). -/

namespace Sys2Proof.Machine

variable {s : State}

/-! ## The last step of the anchor write (R121) -/

/-- R121: an anchor write has 33 steps, and the last reads the mark back. -/
theorem anchorSteps_last (addr : Nat) (g : Word16) (h : Nat) (n : Word16) :
    (anchorSteps addr g h n).length = 33
      ∧ (anchorSteps addr g h n)[32]? = some { addr := addr, byte := markAnchor, verify := true } :=
  ⟨rfl, rfl⟩

/-- R122, R128: the anchor mark read back equal completes the anchor write, at a RESUME as well. -/
theorem State.applierTake_anchorMark {b : Byte} {e : LiveEntry} {rest : List LiveEntry} (o : Order)
    (hp : s.applier.phase = .anchor) (hi : s.applier.idx = 32) (hl : s.journal.live = e :: rest) (hb : b = 0x4C) :
    s.applierTake b o = s.anchorDone := by
  have hprog : s.applierProgram = s.anchorProgram e.pos e.length (s.journal.nextApply + 1) := by
    simp only [State.applierProgram, hp, hl, List.head?_cons]
  obtain ⟨hlen, hlast⟩ := anchorSteps_last (anchorBase s.ctrl.straps s.journal.nextCopy) (s.journal.generation + 1)
    (e.pos + e.length) (s.journal.nextApply + 1)
  have hstep : stepResult s.applierProgram s.applier.idx b = .done := by
    rw [hprog, hi]
    exact stepResult_last hlast hb hlen.symm
  have hadvance : s.applierAdvance .done o = s.anchorDone := by
    simp only [State.applierAdvance, hp]
  have hidle : s.anchorDone.setApplier s.anchorDone.applier.resumed = s.anchorDone := by
    simp only [State.anchorDone, hl, List.head?_cons]
    rfl
  simp only [State.applierTake, hstep, State.applierResume, hadvance, hidle, ite_self]

/-! ## What the anchor write does (R97, R101, R122) -/

/-- R122: a slot that is no profile store is not reported. -/
theorem State.logProfilesStored_none {is : List (Fin 8)} (h : ∀ i ∈ is, (s.slot i).region ≠ .profile) :
    is.foldl State.logProfileStored s = s := by
  induction is with
  | nil => rfl
  | cons i is ih =>
    have hi : s.logProfileStored i = s := if_neg (h i (List.mem_cons_self ..))
    rw [List.foldl_cons, hi]
    exact ih fun k hk => h k (List.mem_cons_of_mem _ hk)

/-- R122: the reports change the events alone. -/
theorem State.logProfilesStored_events (is : List (Fin 8)) (s : State) :
    ∃ ev, is.foldl State.logProfileStored s = s.setEvents ev := by
  induction is generalizing s with
  | nil => exact ⟨s.events, rfl⟩
  | cons i is ih =>
    obtain ⟨ev, hev⟩ : ∃ ev, s.logProfileStored i = s.setEvents ev := by
      unfold State.logProfileStored
      split
      · exact ⟨_, rfl⟩
      · exact ⟨s.events, rfl⟩
    obtain ⟨ev', hev'⟩ := ih (s.setEvents ev)
    exact ⟨ev', by rw [List.foldl_cons, hev, hev']; rfl⟩

/-- R122: what a completed anchor write does. -/
theorem State.anchorDone_eq {e : LiveEntry} {rest : List LiveEntry} (hl : s.journal.live = e :: rest) :
    ∃ ev, s.anchorDone = (((s.setJournal (s.journal.anchored s.journalLength e)).setEvents ev).setStage
          (s.stage.freeSlots e.group.slots)).setApplier Applier.idle
      ∧ ((∀ i ∈ e.group.slots, (s.slot i).region ≠ .profile) → ev = s.events)
      ∧ ∀ i : Fin 8, e.group.slots = [i] → (s.slot i).region = .profile →
          ev = (s.events.arrive
            { kind := .profileStored, detail := 0, region := none, address := some (toAddr (s.base + 32)),
              count := (s.slot i).byte 2 }).evaluate s.table.mask := by
  obtain ⟨ev, hev⟩ := (s.setJournal (s.journal.anchored s.journalLength e)).logProfilesStored_events e.group.slots
  have hdone : s.anchorDone = (((s.setJournal (s.journal.anchored s.journalLength e)).setEvents ev).setStage
      (s.stage.freeSlots e.group.slots)).setApplier Applier.idle := by
    simp only [State.anchorDone, hl, List.head?_cons, hev]
    rfl
  refine ⟨ev, hdone, fun h => ?_, fun i hi hr => ?_⟩
  · rw [State.logProfilesStored_none (s := s.setJournal (s.journal.anchored s.journalLength e)) h] at hev
    exact (congrArg State.events hev).symm
  · have hone : (s.setJournal (s.journal.anchored s.journalLength e)).logProfileStored i
        = (s.setJournal (s.journal.anchored s.journalLength e)).setEvents ev := by
      rw [← hev, hi]; rfl
    rw [State.logProfileStored, if_pos (by exact hr)] at hone
    exact (congrArg State.events hone).symm

/-- R97: the head moves past the entry and the held count with it. -/
theorem Journal.anchored_eq {g : Journal} {j : Nat} {e : LiveEntry} {rest : List LiveEntry} (hl : g.live = e :: rest) :
    g.anchored j e = { g with
      live := rest, head := e.pos + e.length, held := g.held - headAdvance j g.head (e.pos + e.length),
      nextApply := e.seq + 1, inUse := some (if g.inUse = some .a then .b else .a), generation := g.generation + 1 } := by
  have hcopy : g.nextCopy = if g.inUse = some .a then .b else .a := by
    unfold Journal.nextCopy
    rcases g.inUse with _ | _ | _ <;> rfl
  rw [Journal.anchored, hl, hcopy]
  rfl

/-- R97: with nothing held behind the entry the held count falls to 0. -/
theorem Journal.spanRight.anchored_held {g : Journal} {j p : Nat} (h : g.spanRight j) (hj : 0 < j) (ht : g.tail = p) :
    g.held - headAdvance j g.head p = 0 := by
  obtain ⟨hhead, htail, hheld, hmod⟩ := h
  have hcase := mod_eq_cases hj (by omega) htail hmod
  unfold headAdvance forwardDistance
  dsimp only
  split_ifs <;> omega

/-! ## What follows an access -/

/-- R38, R52: after an act `u` on `s`, the write in the slot hold is served, unless STORE PROFILE or an engine's take comes
first. -/
theorem State.afterAccess_heldWriteServed {u : State} {free : Fin 8 → Prop} {o : Order} (hhold : s.holdsForSlot)
    (hhost : u.host = s.host) (hctrl : u.ctrl = s.ctrl) (htable : u.table = s.table) (hpend : u.pending = s.pending)
    (hopen : u.stage.openCounter = s.stage.openCounter) (hfree : ∀ i, (u.slot i).state = .free ↔ free i)
    (hfill : ∀ k, (u.slot k).state = .filling → u.slot k = s.slot k) (hex : ∃ i, free i)
    (hnext : o ∈ [Order.otherFirst, .takeFirst] → s.pending.head? ≠ some .storeProfile)
    (htake : o = .takeFirst → u.takeNext = false) : s.heldWriteServed (u.afterAccess o) free := by
  have hchoose : o ∈ [Order.otherFirst, .takeFirst] → s.heldWriteServed u.chooseThenHeld free := fun hmem =>
    State.chooseThenHeld_heldWriteServed hhold hhost hctrl htable hpend hopen hfree hfill hex (hnext hmem)
  have hnow : s.heldWriteServed (u.endSlotHold.grantBy o) free := by
    have hu : u.holdsForSlot := by
      obtain ⟨ho, hp, hh, hk⟩ := hhold
      exact ⟨hctrl ▸ ho, hhost ▸ hp, hhost ▸ hh, hhost ▸ hk⟩
    have hsome : u.stage.lowestFree ≠ none := fun h => by
      obtain ⟨i, hi⟩ := hex
      exact Staging.lowestFree_eq_none.1 h i ((hfree i).2 hi)
    rw [State.endSlotHold_of_holdsForSlot hu hsome]
    exact State.heldWriteServed_of hu hhost (congrArg Controller.straps hctrl) htable hopen hfree hfill hex
      (State.grantsTo_grantBy _ _)
  cases o with
  | heldFirst => exact hnow
  | heldThenTake => exact hnow
  | otherFirst => exact hchoose (by decide)
  | takeFirst =>
    rw [State.afterAccess, htake rfl, if_neg (by decide)]
    exact hchoose (by decide)

/-- R38: no engine's take is next where none of the three comes next. -/
theorem State.takeNext_of_head
    (h : s.pending.head? ∉ [some Instr.writerTakeGroup, some .writerPlace, some .applierTakeEntry]) :
    s.takeNext = false := by
  unfold State.takeNext
  split <;> simp_all

/-! ## Slots freed -/

theorem Staging.freeSlots_free {g : Staging} {is : List (Fin 8)} (i : Fin 8) :
    (g.freeSlots is).slots[i].state = .free ↔ i ∈ is ∨ g.slots[i].state = .free := by
  obtain ⟨hin, hout, -⟩ := g.freeSlots_cases is
  by_cases hi : i ∈ is
  · rw [hin i hi]
    simp [hi, Slot.cleared]
  · rw [hout i hi]
    simp [hi]

theorem Staging.freeSlots_filling {g : Staging} {is : List (Fin 8)} {i : Fin 8}
    (h : (g.freeSlots is).slots[i].state = .filling) : (g.freeSlots is).slots[i] = g.slots[i] := by
  obtain ⟨hin, hout, -⟩ := g.freeSlots_cases is
  by_cases hi : i ∈ is
  · rw [hin i hi] at h
    cases h
  · exact hout i hi

end Sys2Proof.Machine

open Sys2Proof Sys2Proof.Machine

/-- Settles O44: the mark's readback is the last of the anchor write's steps; the freed slots then go to a held write. -/
theorem anchorWriteFreesEntry : Obligations.AnchorWriteFreesEntry := by
  unfold Obligations.AnchorWriteFreesEntry
  intro s a ord e rest hs ha how hop hm hp hi hb hl
  obtain ⟨ev, hdone, hnone, hone⟩ := State.anchorDone_eq (s := s.setPort { s.port with inFlight := none }) hl
  have hexec : exec (.memoryAccessComplete .ok ord) s
      = .next ((s.setPort { s.port with inFlight := none }).anchorDone.afterAccess ord) := by
    rw [exec_accessComplete_ok ord hs ha hm, how, State.accessDone_read hop, State.accessByte_read hop, State.deliver,
      State.applierTake_anchorMark ord (by exact hp) (by exact hi) (by exact hl) hb]
  rw [hexec, hdone]
  obtain ⟨hfreed, hkept, hq, hh, hc, hopen⟩ := s.stage.freeSlots_cases e.group.slots
  refine ⟨fun hhold hne hnext htake => ⟨_, rfl, ?_⟩, fun hhold hord hhead hrest => ⟨_, rfl, ?_⟩, fun hhold => ?_⟩
  · obtain ⟨i, hi⟩ := List.exists_mem_of_ne_nil _ hne
    exact State.afterAccess_heldWriteServed hhold rfl rfl rfl rfl hopen (fun i => Staging.freeSlots_free i)
      (fun k hk => Staging.freeSlots_filling hk) ⟨i, .inl hi⟩ hnext
      fun ho => State.takeNext_of_head (htake ho)
  · obtain ⟨ho, -⟩ := hhold
    rw [State.setPort_journal, Journal.anchored_eq hl, hord, State.afterAccess, if_pos]
    · exact ⟨rfl, rfl, rfl, fun i hi => (Staging.freeSlots_free i).2 (.inl hi)⟩
    · obtain ⟨x, xs, rfl⟩ := List.exists_cons_of_ne_nil hrest
      simp [State.takeNext, hhead, State.applierFree, hs, ho, Applier.idle]
  · refine ⟨s.stage.freeSlots e.group.slots, ev, ?_, hfreed, hkept, hq, hh, hopen, hc, ?_, hnone, hone⟩
    · rw [State.afterAccess_of_hold ord (.inl (by exact hhold))]
      rw [State.setPort_journal, Journal.anchored_eq hl]
      rfl
    · exact fun hspan htail => hspan.anchored_held (by have := journalSize_ge s.ctrl.straps; unfold State.journalLength; omega) htail
end

section
/-! SUPPORT. LOAD PROFILE, FORMAT (R102, R166) and DISCARD HELD (R76, R77). -/

namespace Sys2Proof.Machine

variable {s : State}

/-- A port that awaits its command byte belongs to a powered part outside FROZEN. -/
theorem State.awaitsCommand_supply (h : s.awaitsCommand = true) : s.supply = true :=
  (State.awaitsCommand_iff.1 h).1

/-! ## The start of a load and of a format -/

/-- R19, R166: where a load begins, its controller and table. -/
def RegionTable.unloaded (g : RegionTable) : RegionTable :=
  { g with entries := RegionTable.noEntries }

theorem State.beginLoad_reloading (s : State) :
    s.beginLoad .reloading = (s.setTable s.table.unloaded).setCtrl
      { s.ctrl with opState := .reloading, hrsto := false, loader := [] } :=
  rfl

/-- R161: the loader's first read. -/
theorem State.systemWants_beginLoad {o : OpState} (ho : s.ctrl.opState = o) (hmem : o ∈ [OpState.initload, .reloading])
    (hl : s.ctrl.loader = []) :
    s.systemWants = some { owner := .system, addr := s.base + 32, op := .read } := by
  have hwants : s.loaderWants = some { owner := .system, addr := s.base + 32, op := .read } := by
    simp [State.loaderWants, hl, profileBase, State.base]
  simp only [List.mem_cons, List.not_mem_nil, or_false] at hmem
  rcases hmem with rfl | rfl <;> simp only [State.systemWants, ho, hwants]

/-- R103: the first write of a format. -/
theorem State.systemWants_format (ho : s.ctrl.opState = .locked) (hf : s.ctrl.format = some 0) :
    s.systemWants = some { owner := .system, addr := s.base + 128, op := .write 0x00 } := by
  have hj := journalSize_ge s.ctrl.straps
  have hstep : formatStep s.ctrl.straps 0
      = some { addr := journalBase s.ctrl.straps + 0, byte := markCleared, verify := false } :=
    if_pos (by omega)
  have hwants : s.formatWants = some { owner := .system, addr := s.base + 128, op := .write 0x00 } := by
    rw [State.formatWants, hf, Option.bind_some, hstep]
    rfl
  simp only [State.systemWants, ho, hwants]

/-! ## DISCARD HELD (R77) -/

/-- R77: the store after the slots of a held list are freed. -/
def Staging.discarded (g : Staging) (t : Fin 8) : Staging :=
  { g.freeSlots g.held[t] with held := (g.freeSlots g.held[t]).held.set t [] }

theorem Staging.discarded_held (g : Staging) (t : Fin 8) :
    (g.discarded t).held[t] = [] ∧ ∀ k : Fin 8, k ≠ t → (g.discarded t).held[k] = g.held[k] := by
  obtain ⟨-, -, -, hheld, -, -⟩ := g.freeSlots_cases g.held[t]
  refine ⟨by simp [Staging.discarded], fun k hk => ?_⟩
  have hset : ((g.freeSlots g.held[t]).held.set t [])[k] = (g.freeSlots g.held[t]).held[k] :=
    Vector.getElem_set_ne _ _ fun e => hk (Fin.ext e.symm)
  rw [Staging.discarded, hset, hheld]

/-- R77: one SLOTS_DISCARDED where the list held slots. -/
theorem State.discardHeldOn_eq (s : State) (t : Fin 8) :
    s.discardHeldOn t = (s.setStage (s.stage.discarded t)).setEvents
      (if s.stage.held[t] = [] then s.events
        else (s.events.arrive
          { kind := .slotsDiscarded, detail := 0, region := some t, address := none,
            count := BitVec.ofNat 8 s.stage.held[t].length }).evaluate s.table.mask) := by
  unfold State.discardHeldOn
  simp only [List.length_eq_zero_iff]
  split <;> rfl

/-- R76: DISCARD HELD with a trigger's index, where it is accepted. -/
theorem exec_discardHeld {b : Byte} {t : Fin 8} (hw : s.awaitsCommand = true)
    (ho : s.ctrl.opState ∈ [OpState.running, .faulted]) (hb : b.toNat = t.val) :
    exec (.discardHeld (some b)) s
      = .next ((s.discardHeldOn t).reply .discardHeld [b] .ok [BitVec.ofNat 8 s.stage.held[t].length]).endSlotHold.grant := by
  have hacc : MgmtCommand.accepted .discardHeld s.ctrl.opState s.ctrl.format.isSome = true := by
    simpa [MgmtCommand.accepted] using ho
  simp only [exec, execDiscardHeld, State.effectPoint_accepted hw hacc, index8_of_eq hb]

end Sys2Proof.Machine

open Sys2Proof Sys2Proof.Machine

/-- Settles O58: each begins with the first access of its own sequence. -/
theorem loadProfileAndFormatBegin : Obligations.LoadProfileAndFormatBegin := by
  unfold Obligations.LoadProfileAndFormatBegin
  refine ⟨fun s hw ho => ⟨fun hfree => ?_, fun hlive => ?_⟩, fun s hw ho hf => ?_⟩
  · have hacc : MgmtCommand.accepted .loadProfile s.ctrl.opState s.ctrl.format.isSome = true := by
      simp [MgmtCommand.accepted, ho]
    have hall : s.stage.allFree = true := Staging.allFree_iff.2 hfree
    have hexec : exec .loadProfile s
        = .next (((s.beginLoad .reloading).reply .loadProfile [] .ok []).grant) := by
      simp only [exec, execLoadProfile, State.effectPoint_accepted hw hacc, hall, if_true]
    refine ⟨((s.beginLoad .reloading).reply .loadProfile [] .ok []).mgmt, s.table.unloaded, _, hexec, rfl,
      State.reply_answers .., RegionTable.noEntries_get, rfl, rfl, fun hp hh => ?_⟩
    rw [State.grant_of_systemWants (s := (s.beginLoad .reloading).reply .loadProfile [] .ok [])
      (State.awaitsCommand_supply (s := s) hw) hp hh (State.systemWants_beginLoad (o := .reloading) rfl (by decide) rfl)]
    rfl
  · have hacc : MgmtCommand.accepted .loadProfile s.ctrl.opState s.ctrl.format.isSome = true := by
      simp [MgmtCommand.accepted, ho]
    have hall : ¬s.stage.allFree = true := fun h => hlive.elim fun i hi => hi (Staging.allFree_iff.1 h i)
    refine ⟨(s.reply .loadProfile [] .busyLive []).mgmt, ?_, State.reply_answers ..⟩
    simp only [exec, execLoadProfile, State.effectPoint_accepted hw hacc, if_neg hall]
    rfl
  · have hacc : MgmtCommand.accepted .format s.ctrl.opState s.ctrl.format.isSome = true := by
      simp [MgmtCommand.accepted, ho, hf]
    have hexec : exec .format s
        = .next (((s.setCtrl { s.ctrl with format := some 0 }).reply .format [] .ok []).grant) := by
      simp only [exec, execFormat, State.effectPoint_accepted hw hacc]
    refine ⟨((s.setCtrl { s.ctrl with format := some 0 }).reply .format [] .ok []).mgmt, _, hexec, rfl,
      State.reply_answers .., fun hp hh => ?_⟩
    rw [State.grant_of_systemWants (s := (s.setCtrl { s.ctrl with format := some 0 }).reply .format [] .ok [])
      (State.awaitsCommand_supply (s := s) hw) hp hh (State.systemWants_format ho rfl)]
    rfl

/-- Settles O60: the list's slots are freed, and a held write is then decoded afresh. -/
theorem discardHeldFreesList : Obligations.DiscardHeldFreesList := by
  unfold Obligations.DiscardHeldFreesList
  intro s hw ho
  refine ⟨fun b t hb hhold => ?_, fun b t hb hhold hne => ?_, fun b hb => ?_⟩
  · obtain ⟨hfreed, hkept, hq, -, hc, hopen⟩ := s.stage.freeSlots_cases s.stage.held[t]
    obtain ⟨hheld, hother⟩ := s.stage.discarded_held t
    refine ⟨((s.discardHeldOn t).reply .discardHeld [b] .ok [BitVec.ofNat 8 s.stage.held[t].length]).mgmt,
      s.stage.discarded t, if s.stage.held[t] = [] then s.events else _, (exec_discardHeld (b := b) hw ho hb).trans ?_, State.reply_answers .., hfreed, hkept, hheld, hother, hq,
      hopen, hc, fun h => if_pos h, fun h => if_neg h⟩
    rw [State.endSlotHold_of_hold (by simpa using hhold), State.discardHeldOn_eq]
    rfl
  · refine ⟨_, exec_discardHeld hw ho hb, ?_, ?_⟩
    · have hm : ((s.discardHeldOn t).reply .discardHeld [b] .ok
          [BitVec.ofNat 8 s.stage.held[t].length]).endSlotHold.grant.mgmt
          = ((s.discardHeldOn t).reply .discardHeld [b] .ok [BitVec.ofNat 8 s.stage.held[t].length]).mgmt := by
        simp only [State.grant_frame, State.endSlotHold_frame]
      rw [hm]
      exact State.reply_answers ..
    · obtain ⟨i, hi⟩ := List.exists_mem_of_ne_nil _ hne
      have hfree : ∀ k : Fin 8, ((s.discardHeldOn t).slot k).state = .free
          ↔ k ∈ s.stage.held[t] ∨ (s.slot k).state = .free := fun k => by
        rw [State.discardHeldOn_eq]
        exact Staging.freeSlots_free k
      have hfill : ∀ k : Fin 8, ((s.discardHeldOn t).slot k).state = .filling →
          (s.discardHeldOn t).slot k = s.slot k := fun k hk => by
        rw [State.discardHeldOn_eq] at hk ⊢
        exact Staging.freeSlots_filling hk
      have hopen : (s.discardHeldOn t).stage.openCounter = s.stage.openCounter := by
        rw [State.discardHeldOn_eq]
        exact (s.stage.freeSlots_cases s.stage.held[t]).2.2.2.2.2
      have hu : ((s.discardHeldOn t).reply .discardHeld [b] .ok
          [BitVec.ofNat 8 s.stage.held[t].length]).holdsForSlot := by
        simpa [State.holdsForSlot] using hhold
      rw [State.endSlotHold_of_holdsForSlot hu fun h => Staging.lowestFree_eq_none.1 h i ((hfree i).2 (.inl hi))]
      exact State.heldWriteServed_of hu (by simp) (by simp) (by simp) hopen hfree hfill ⟨i, .inl hi⟩
        (State.grantsTo_grant _)
  · have hacc : MgmtCommand.accepted .discardHeld s.ctrl.opState s.ctrl.format.isSome = true := by
      simpa [MgmtCommand.accepted] using ho
    refine ⟨(s.reply .discardHeld [b] .badArg []).mgmt, ?_, State.reply_answers ..⟩
    simp only [exec, execDiscardHeld, State.effectPoint_accepted hw hacc, index8_of_le hb]
    rfl
end

section
/-! SUPPORT. RESUME (R126 to R128, R149): what it makes of each engine, and of the access that it finds in flight. -/

namespace Sys2Proof.Machine

variable {s : State}

/-! ## The engines at RESUME -/

theorem State.engineBusy_iff {r : Requester} :
    s.engineBusy r = true ↔ ∃ a, s.port.inFlight = some a ∧ a.owner = .requester r := by
  simp [State.engineBusy, Option.any_eq_true]

theorem State.engineBusy_eq_false {r : Requester} (h : ∀ a, s.port.inFlight = some a → a.owner ≠ .requester r) :
    s.engineBusy r = false := by
  rw [Bool.eq_false_iff]
  intro hb
  obtain ⟨a, ha, how⟩ := State.engineBusy_iff.1 hb
  exact h a ha how

/-- R126, R127: the Writer at RESUME, before any clearing. -/
def State.writerResumed (s : State) : Writer :=
  if s.engineBusy .writer then { s.writer with retry := 0 }.resumedLater else { s.writer with retry := 0 }.resumed

/-- R126, R128: the Applier at RESUME. -/
def State.applierResumed (s : State) : Applier :=
  if s.engineBusy .applier then { s.applier with retry := 0 }.resumedLater else { s.applier with retry := 0 }.resumed

/-- R149: the Writer at RESUME, with the clearing writes that follow a recovery fault. -/
def State.writerReady (s : State) : Writer :=
  if s.ctrl.cause = .recovery then
    { s.writerResumed with
      clearing := s.journal.freeBytes s.journalLength, clearAt := s.journal.tail % s.journalLength }
  else s.writerResumed

/-- R126 to R128, R149: what RESUME sets before the merge goes on. -/
theorem State.resumeReady_eq (s : State) :
    s.resumeReady = ((s.setWriter s.writerReady).setApplier s.applierResumed).setCtrl
      { s.ctrl with opState := .running, hrsto := false, cause := .noCause } := by
  unfold State.resumeReady State.writerReady
  by_cases hc : s.ctrl.cause = .recovery
  · simp only [State.resumeApplier_frame, State.resumeWriter_frame, hc, if_true]
    rfl
  · simp only [State.resumeApplier_frame, State.resumeWriter_frame, hc, if_false]
    rfl

/-- What RESUME keeps of the Writer, in every phase. -/
def Writer.keptAtResume (w w' : Writer) : Prop :=
  w'.group = w.group ∧ w'.length = w.length ∧ w'.pos = w.pos ∧ w'.seq = w.seq ∧ w'.check = w.check
    ∧ w'.padAt = w.padAt

theorem Writer.resumed_kept (w : Writer) : w.keptAtResume w.resumed ∧ w.resumed.retry = w.retry
    ∧ w.resumed.clearing = w.clearing ∧ w.resumed.resuming = false := by
  unfold Writer.resumed
  split <;> exact ⟨⟨rfl, rfl, rfl, rfl, rfl, rfl⟩, rfl, rfl, rfl⟩

theorem Writer.resumedLater_kept (w : Writer) : w.keptAtResume w.resumedLater ∧ w.resumedLater.retry = w.retry
    ∧ w.resumedLater.clearing = w.clearing ∧ w.resumedLater.phase = w.phase ∧ w.resumedLater.idx = w.idx := by
  unfold Writer.resumedLater
  split <;> exact ⟨⟨rfl, rfl, rfl, rfl, rfl, rfl⟩, rfl, rfl, rfl, rfl⟩

theorem Writer.resumed_of_sequence {w : Writer} (h : w.phase ∈ [WriterPhase.write, .verify, .mark]) :
    w.resumed = { w with phase := .write, idx := 0, resuming := false } := by
  simp only [List.mem_cons, List.not_mem_nil, or_false] at h
  rcases h with h | h | h <;> simp only [Writer.resumed, h]

theorem Writer.resumed_of_quiet {w : Writer} (h : w.phase ∉ [WriterPhase.write, .verify, .mark]) :
    w.resumed = { w with resuming := false } := by
  simp only [List.mem_cons, List.not_mem_nil, or_false, not_or] at h
  unfold Writer.resumed
  split <;> simp_all

theorem Writer.resumedLater_of_sequence {w : Writer} (h : w.phase ∈ [WriterPhase.write, .verify, .mark]) :
    w.resumedLater = { w with resuming := true } := by
  simp only [List.mem_cons, List.not_mem_nil, or_false] at h
  rcases h with h | h | h <;> simp only [Writer.resumedLater, h]

theorem State.writerResumed_kept (s : State) : s.writer.keptAtResume s.writerResumed ∧ s.writerResumed.retry = 0
    ∧ s.writerResumed.clearing = s.writer.clearing := by
  unfold State.writerResumed
  split
  · obtain ⟨hk, hr, hc, -⟩ := { s.writer with retry := 0 }.resumedLater_kept
    exact ⟨hk, hr, hc⟩
  · obtain ⟨hk, hr, hc, -⟩ := { s.writer with retry := 0 }.resumed_kept
    exact ⟨hk, hr, hc⟩

/-- A phase without a sequence of its own is kept. -/
theorem State.writerResumed_phase (h : s.writer.phase ∉ [WriterPhase.write, .verify, .mark]) :
    s.writerResumed.phase = s.writer.phase := by
  unfold State.writerResumed
  split
  · exact Writer.resumedLater_phase _
  · rw [Writer.resumed_of_quiet (by exact h)]

/-- The merge is gone on with exactly where the Writer was in it. -/
theorem State.writerResumed_merge : s.writerResumed.phase = .merge ↔ s.writer.phase = .merge := by
  by_cases h : s.writer.phase ∈ [WriterPhase.write, .verify, .mark]
  · have hne : s.writer.phase ≠ .merge := fun e => by simp [e] at h
    have hne' : s.writerResumed.phase ≠ .merge := by
      unfold State.writerResumed
      split
      · rwa [Writer.resumedLater_phase]
      · rw [Writer.resumed_of_sequence (by exact h)]
        nofun
    simp [hne, hne']
  · rw [State.writerResumed_phase h]

theorem State.writerReady_eq (s : State) : ∃ c k, s.writerReady = { s.writerResumed with clearing := c, clearAt := k }
    ∧ (s.ctrl.cause = .recovery → c = s.journalLength - s.journal.held ∧ k = s.journal.tail % s.journalLength)
    ∧ (s.ctrl.cause ≠ .recovery → c = s.writer.clearing) := by
  unfold State.writerReady
  split
  · exact ⟨_, _, rfl, fun _ => ⟨rfl, rfl⟩, fun h => absurd ‹_› h⟩
  · exact ⟨_, _, rfl, fun h => absurd h ‹_›, fun _ => s.writerResumed_kept.2.2⟩

/-- R127: what RESUME makes of the Writer: as resumed, or, where its merge comes to its end, in PLACE. -/
theorem State.resumeEngines_writer (s : State) :
    s.resumeEngines.writer = s.writerReady
      ∨ s.writer.phase = .merge ∧ s.resumeEngines.writer = { s.writerReady with phase := .place, idx := 0 } := by
  obtain ⟨c, k, hready, -⟩ := s.writerReady_eq
  have hphase : s.resumeReady.writer = s.writerReady := by rw [State.resumeReady_eq]; rfl
  rw [State.resumeEngines_eq]
  split
  · rename_i hm
    rw [hphase, hready] at hm
    unfold State.mergeOn
    dsimp only
    split
    · exact .inr ⟨State.writerResumed_merge.1 hm, by rw [← hphase]; rfl⟩
    · exact .inl hphase
  · exact .inl hphase

/-- R127: outside a merge RESUME leaves the store. -/
theorem State.resumeEngines_stage (h : s.writer.phase ≠ .merge) : s.resumeEngines.stage = s.stage := by
  obtain ⟨c, k, hready, -⟩ := s.writerReady_eq
  have hphase : s.resumeReady.writer = s.writerReady := by rw [State.resumeReady_eq]; rfl
  have hnot : s.resumeReady.writer.phase ≠ .merge := fun hm => by
    rw [hphase, hready] at hm
    exact h (State.writerResumed_merge.1 hm)
  rw [State.resumeEngines_eq, if_neg hnot, State.resumeReady_eq]
  rfl

theorem State.resumeEngines_rest (s : State) :
    s.resumeEngines.ctrl = { s.ctrl with opState := .running, hrsto := false, cause := .noCause }
      ∧ s.resumeEngines.applier = s.applierResumed := by
  rw [State.resumeEngines_eq]
  split
  · simp only [State.mergeOn_frame, State.resumeReady_eq]
    exact ⟨rfl, rfl⟩
  · rw [State.resumeReady_eq]
    exact ⟨rfl, rfl⟩

/-! ## The Applier at RESUME -/

theorem Applier.resumedLater_of_busy {a : Applier} (h : a.phase ≠ .idle) : a.resumedLater = { a with resuming := true } := by
  unfold Applier.resumedLater
  split <;> simp_all

theorem Applier.resumed_resuming (a : Applier) : a.resumed.resuming = false ∧ a.resumed.retry = a.retry
    ∧ a.resumed.phase = a.phase := by
  unfold Applier.resumed
  split <;> exact ⟨rfl, rfl, rfl⟩

theorem Applier.resumed_home {a : Applier} (h : a.phase = .home) : a.resumed = { a with seg := 0, idx := 0, resuming := false } := by
  simp only [Applier.resumed, h]

theorem Applier.resumed_of_marks {a : Applier} (h : a.phase ∈ [ApplierPhase.retire, .anchor]) :
    a.resumed = { a with idx := 0, resuming := false } := by
  simp only [List.mem_cons, List.not_mem_nil, or_false] at h
  rcases h with h | h <;> simp only [Applier.resumed, h]

theorem State.applierResumed_kept (s : State) : s.applierResumed.retry = 0 ∧ s.applierResumed.phase = s.applier.phase := by
  unfold State.applierResumed
  split
  · unfold Applier.resumedLater
    split <;> exact ⟨rfl, rfl⟩
  · obtain ⟨-, hr, hp⟩ := { s.applier with retry := 0 }.resumed_resuming
    exact ⟨hr, hp⟩

/-! ## The access found in flight (log 32) -/

/-- R127: the Writer goes on by its phase when the access completes, unless that completes its MARK. -/
theorem State.writerTake_resuming {b : Byte} {m : MemStep} (o : Order)
    (hp : s.writer.phase ∈ [WriterPhase.write, .verify, .mark]) (hres : s.writer.resuming = true)
    (hm : s.writerProgram[s.writer.idx]? = some m)
    (hmark : s.writer.phase = .mark →
      s.writer.idx + 1 < s.writerProgram.length ∨ m.verify = true ∧ b ≠ m.byte) :
    s.writerTake b o = s.setWriter { s.writer with phase := .write, idx := 0, resuming := false } := by
  rw [State.writerTake_step b o hp, hres, if_pos rfl]
  unfold State.writerResume
  cases hr : stepResult s.writerProgram s.writer.idx b with
  | unequal addr => simp only [Writer.resumed_of_sequence hp]
  | more => simp only [Writer.resumed_of_sequence hp]
  | done =>
    obtain ⟨m', hm', hlast, hbyte⟩ := stepResult_done hr
    obtain rfl : m = m' := Option.some.inj (hm.symm.trans hm')
    have hnot : s.writer.phase ≠ .mark := fun e => by
      rcases hmark e with h | ⟨hv, hne⟩
      · omega
      · exact hne (hbyte hv)
    simp only [List.mem_cons, List.not_mem_nil, or_false] at hp
    rcases hp with hp | hp | hp
    · simp only [State.writerAdvance, hp]
      rfl
    · simp only [State.writerAdvance, hp]
      rfl
    · exact absurd hp hnot

/-- R128: the Applier goes on by its phase when the access completes without completing its step. -/
theorem State.applierTake_resuming {b : Byte} {m : MemStep} (o : Order)
    (hp : s.applier.phase ∈ [ApplierPhase.home, .retire, .anchor]) (hres : s.applier.resuming = true)
    (hm : s.applierProgram[s.applier.idx]? = some m)
    (hmore : s.applier.idx + 1 < s.applierProgram.length ∨ m.verify = true ∧ b ≠ m.byte) :
    s.applierTake b o = s.setApplier
      { s.applier with
        seg := (if s.applier.phase = .home then 0 else s.applier.seg), idx := 0, resuming := false } := by
  have hgoes : s.applier.resumed = { s.applier with
      seg := (if s.applier.phase = .home then 0 else s.applier.seg), idx := 0, resuming := false } := by
    by_cases h : s.applier.phase = .home
    · rw [Applier.resumed_home h, if_pos h]
    · rw [Applier.resumed_of_marks ((List.mem_cons.1 hp).resolve_left h), if_neg h]
  have htake : s.applierTake b o = s.applierResume (stepResult s.applierProgram s.applier.idx b) o := if_pos hres
  rw [htake, ← hgoes]
  unfold State.applierResume
  cases hr : stepResult s.applierProgram s.applier.idx b with
  | unequal addr => rfl
  | more => rfl
  | done =>
    obtain ⟨m', hm', hlast, hbyte⟩ := stepResult_done hr
    obtain rfl : m = m' := Option.some.inj (hm.symm.trans hm')
    rcases hmore with h | ⟨hv, hne⟩
    · omega
    · exact absurd (hbyte hv) hne

/-- R126: RESUME in FAULTED. -/
theorem exec_resume (hw : s.awaitsCommand = true) (ho : s.ctrl.opState = .faulted) :
    exec .resume s = .next ((s.resumeEngines.reply .resume [] .ok []).grant) := by
  have hacc : MgmtCommand.accepted .resume s.ctrl.opState s.ctrl.format.isSome = true := by
    simp [MgmtCommand.accepted, ho]
  simp only [exec, execResume, State.effectPoint_accepted hw hacc]

end Sys2Proof.Machine

open Sys2Proof Sys2Proof.Machine

/-- What RESUME makes of the Writer, as the statement has it. -/
theorem resumeEngines_writer_effect (s : State) :
    s.resumeEngines.writer.retry = 0 ∧ s.writer.keptAtResume s.resumeEngines.writer
      ∧ (s.writer.phase = .idle → s.resumeEngines.writer.phase = .idle)
      ∧ (s.writer.phase = .place → s.resumeEngines.writer.phase = .place)
      ∧ (s.writer.phase = .merge → s.resumeEngines.writer.phase = .merge ∨ s.resumeEngines.writer.phase = .place)
      ∧ ((∀ a, s.port.inFlight = some a → a.owner ≠ .requester .writer) →
          s.resumeEngines.writer.resuming = false
            ∧ (s.writer.phase ∈ [WriterPhase.write, .verify, .mark] →
              s.resumeEngines.writer.phase = .write ∧ s.resumeEngines.writer.idx = 0))
      ∧ (∀ a, s.port.inFlight = some a → a.owner = .requester .writer →
          s.writer.phase ∈ [WriterPhase.write, .verify, .mark] →
            s.resumeEngines.writer.resuming = true ∧ s.resumeEngines.writer.phase = s.writer.phase
              ∧ s.resumeEngines.writer.idx = s.writer.idx)
      ∧ (s.ctrl.cause = .recovery → s.resumeEngines.writer.clearing = s.journalLength - s.journal.held
          ∧ s.resumeEngines.writer.clearAt = s.journal.tail % s.journalLength)
      ∧ (s.ctrl.cause ≠ .recovery → s.resumeEngines.writer.clearing = s.writer.clearing) := by
  obtain ⟨c, k, hready, hclear, hkeep⟩ := s.writerReady_eq
  obtain ⟨hkept, hretry, -⟩ := s.writerResumed_kept
  have hfree : (∀ a, s.port.inFlight = some a → a.owner ≠ .requester .writer) →
      s.writerResumed = { s.writer with retry := 0 }.resumed := fun h => by
    rw [State.writerResumed, State.engineBusy_eq_false h, if_neg (by decide)]
  have hbusy : ∀ a, s.port.inFlight = some a → a.owner = .requester .writer →
      s.writerResumed = { s.writer with retry := 0 }.resumedLater := fun a ha how => by
    rw [State.writerResumed, State.engineBusy_iff.2 ⟨a, ha, how⟩, if_pos rfl]
  have hphase : s.writer.phase ∉ [WriterPhase.write, .verify, .mark] → s.writerResumed.phase = s.writer.phase :=
    State.writerResumed_phase
  rcases s.resumeEngines_writer with h | ⟨hm, h⟩
  · rw [h, hready]
    refine ⟨hretry, hkept, fun hp => (hphase (by simp [hp])).trans hp, fun hp => (hphase (by simp [hp])).trans hp,
      fun hp => .inl ((hphase (by simp [hp])).trans hp), fun hn => ?_, fun a ha how hp => ?_, hclear, hkeep⟩
    · rw [hfree hn]
      refine ⟨(Writer.resumed_kept _).2.2.2, fun hp => ?_⟩
      rw [Writer.resumed_of_sequence (by exact hp)]
      exact ⟨rfl, rfl⟩
    · rw [hbusy a ha how, Writer.resumedLater_of_sequence (by exact hp)]
      exact ⟨rfl, rfl, rfl⟩
  · have hnot : s.writer.phase ∉ [WriterPhase.write, .verify, .mark] := by rw [hm]; decide
    rw [h, hready]
    refine ⟨hretry, hkept, fun hp => ?_, fun _ => rfl, fun _ => .inr rfl, fun hn => ⟨?_, fun hp => absurd hp hnot⟩,
      fun _ _ _ hp => absurd hp hnot, hclear, hkeep⟩
    · rw [hm] at hp; cases hp
    · rw [hfree hn]
      exact (Writer.resumed_kept _).2.2.2

/-- What RESUME makes of the Applier, as the statement has it. -/
theorem applierResumed_effect (s : State) :
    (s.applier.phase = .idle → s.applierResumed.phase = .idle)
      ∧ ((∀ a, s.port.inFlight = some a → a.owner ≠ .requester .applier) →
          s.applierResumed.resuming = false
            ∧ (s.applier.phase = .home →
              s.applierResumed.phase = .home ∧ s.applierResumed.seg = 0 ∧ s.applierResumed.idx = 0)
            ∧ (s.applier.phase ∈ [ApplierPhase.retire, .anchor] →
              s.applierResumed.phase = s.applier.phase ∧ s.applierResumed.idx = 0))
      ∧ (∀ a, s.port.inFlight = some a → a.owner = .requester .applier →
          s.applier.phase ≠ .idle → s.applierResumed = { s.applier with retry := 0, resuming := true }) := by
  refine ⟨fun hp => s.applierResumed_kept.2.trans hp, fun hn => ?_, fun a ha how hp => ?_⟩
  · have hfree : s.applierResumed = { s.applier with retry := 0 }.resumed := by
      rw [State.applierResumed, State.engineBusy_eq_false hn, if_neg (by decide)]
    rw [hfree]
    refine ⟨(Applier.resumed_resuming _).1, fun hp => ?_, fun hp => ?_⟩
    · rw [Applier.resumed_home (by exact hp)]
      exact ⟨hp, rfl, rfl⟩
    · rw [Applier.resumed_of_marks (by exact hp)]
      exact ⟨rfl, rfl⟩
  · rw [State.applierResumed, State.engineBusy_iff.2 ⟨a, ha, how⟩, if_pos rfl,
      Applier.resumedLater_of_busy (by exact hp)]

/-- Settles O59: each engine goes on by its phase; with its access in flight, when that completes. -/
theorem resumeRestartsEngines : Obligations.ResumeRestartsEngines := by
  unfold Obligations.ResumeRestartsEngines
  refine ⟨fun s hw ho => ?_, fun s hw ho => ?_, fun s a m ord hs ha hm hhold => ⟨?_, ?_⟩⟩
  · have hacc : MgmtCommand.accepted .resume s.ctrl.opState s.ctrl.format.isSome = false := by
      simp [MgmtCommand.accepted, ho]
    refine ⟨(s.reply .resume [] .notNow []).mgmt, ?_, State.reply_answers ..⟩
    simp only [exec, execResume, State.effectPoint_notNow hw hacc]
    rfl
  · obtain ⟨hretry, ⟨h1, h2, h3, h4, h5, h6⟩, hidle, hplace, hmerge, hfree, hbusy, hclear, hkeep⟩ :=
      resumeEngines_writer_effect s
    obtain ⟨haidle, hafree, habusy⟩ := applierResumed_effect s
    obtain ⟨hctrl, happ⟩ := s.resumeEngines_rest
    have hgrant : (s.resumeEngines.reply .resume [] .ok []).grant.mgmt
        = (s.resumeEngines.reply .resume [] .ok []).mgmt := by simp only [State.grant_frame]
    refine ⟨_, exec_resume hw ho, hgrant ▸ State.reply_answers .., ?_⟩
    simp only [State.grant_frame, State.reply_frame, State.resumeEngines_frame, happ]
    exact ⟨hctrl, hretry, s.applierResumed_kept.1, h1, h2, h3, h4, h5, h6, hidle, hplace, hmerge,
      fun hp => State.resumeEngines_stage hp, haidle, hfree, hbusy, hafree, habusy, hclear, hkeep, by simp⟩
  · intro how hp hres hprog hmark
    rw [exec_accessComplete_ok ord hs ha hm, how, State.deliver,
      State.writerTake_resuming (m := m) ord (by exact hp) (by exact hres) (by exact hprog) (by exact hmark),
      State.afterAccess_of_hold ord (.inl (by exact hhold))]
    rfl
  · intro how hp hres hprog hmore
    rw [exec_accessComplete_ok ord hs ha hm, how, State.deliver,
      State.applierTake_resuming (m := m) ord (by exact hp) (by exact hres) (by exact hprog) (by exact hmore),
      State.afterAccess_of_hold ord (.inl (by exact hhold))]
    rfl
end

section
/-! SUPPORT. The merge (R109): what its walk leaves, where it stops, and that every byte it fills in is that of the next older
version that holds the offset. -/

namespace Sys2Proof.Machine

variable {g : Staging}

/-! ## A byte stored -/

theorem Slot.store_written (x : Slot) (o k : Nat) (b : Byte) :
    (x.store o b).written.getLsbD k = true ↔ x.written.getLsbD k = true ∨ k = o ∧ o < 128 := by
  simp only [Slot.store, BitVec.getLsbD_or, BitVec.getLsbD_twoPow, Bool.or_eq_true, Bool.and_eq_true, decide_eq_true_eq]
  constructor
  · rintro (h | ⟨h, rfl⟩)
    · exact .inl h
    · exact .inr ⟨rfl, h⟩
  · rintro (h | ⟨rfl, h⟩)
    · exact .inl h
    · exact .inr ⟨h, rfl⟩

theorem Slot.store_byte_same (x : Slot) {o : Nat} (b : Byte) (h : o < 128) : (x.store o b).byte o = b := by
  obtain ⟨hb, -⟩ := x.store_holdsAlso b h
  exact hb

theorem Slot.store_byte_other (x : Slot) {o k : Nat} (b : Byte) (h : k ≠ o) : (x.store o b).byte k = x.byte k := by
  simp [Slot.byte, Slot.store, Ne.symm h]

/-- A slot with a WRITTEN bit for an offset has that offset. -/
theorem Slot.written_lt {x : Slot} {k : Nat} (h : x.written.getLsbD k = true) : k < 128 :=
  BitVec.lt_of_getLsbD h

/-! ## The store with one byte filled in -/

/-- R109: the store with the byte `b` at offset `k` of slot `i`. -/
def Staging.filled (g : Staging) (i : Fin 8) (k : Nat) (b : Byte) : Staging :=
  g.setSlot i (g.slots[i].store k b)

theorem Staging.filled_written {i : Fin 8} {k : Nat} (b : Byte) (hk : k < 128) (j : Fin 8) (n : Nat) :
    (g.filled i k b).slots[j].written.getLsbD n = true ↔ g.slots[j].written.getLsbD n = true ∨ j = i ∧ n = k := by
  by_cases hj : j = i
  · subst hj
    rw [Staging.filled, Staging.setSlot_same, Slot.store_written]
    simp [hk]
  · rw [Staging.filled, Staging.setSlot_other _ _ hj]
    simp [hj]

/-- A byte that was held is held unchanged. -/
theorem Staging.filled_byte {i : Fin 8} {k : Nat} (b : Byte) (h : g.slots[i].written.getLsbD k = false) {j : Fin 8} {n : Nat}
    (hj : g.slots[j].written.getLsbD n = true) : (g.filled i k b).slots[j].byte n = g.slots[j].byte n := by
  by_cases hji : j = i
  · subst hji
    have hn : n ≠ k := fun e => by rw [e, h] at hj; cases hj
    rw [Staging.filled, Staging.setSlot_same, Slot.store_byte_other _ _ hn]
  · rw [Staging.filled, Staging.setSlot_other _ _ hji]

theorem Staging.filled_record {i : Fin 8} (k : Nat) (b : Byte) (j : Fin 8) :
    (g.filled i k b).slots[j].state = g.slots[j].state ∧ (g.filled i k b).slots[j].region = g.slots[j].region
      ∧ (g.filled i k b).slots[j].home = g.slots[j].home := by
  by_cases hj : j = i
  · subst hj
    rw [Staging.filled, Staging.setSlot_same]
    exact ⟨rfl, rfl, rfl⟩
  · rw [Staging.filled, Staging.setSlot_other _ _ hj]
    exact ⟨rfl, rfl, rfl⟩

theorem Staging.filled_versionHolds {i : Fin 8} {k : Nat} (b : Byte) (hk : k < 128) (m j : Fin 8) (n : Nat) :
    (g.filled i k b).versionHolds m j n ↔ g.versionHolds m j n
      ∨ (g.slots[j].state ≠ .free ∧ g.slots[j].region = g.slots[m].region ∧ g.slots[j].home = g.slots[m].home)
        ∧ j = i ∧ n = k := by
  obtain ⟨hs, hr, hh⟩ := Staging.filled_record (g := g) (i := i) k b j
  obtain ⟨-, hrm, hhm⟩ := Staging.filled_record (g := g) (i := i) k b m
  simp only [Staging.versionHolds, hs, hr, hh, hrm, hhm, Staging.filled_written b hk]
  tauto

/-! ## The next older version (R109) -/

/-- R109: the older versions are the record's slots before `i` in the chain. -/
theorem Staging.versionHolds_iff {i j : Fin 8} {k : Nat} :
    g.versionHolds i j k ↔ (g.slots[j].live && g.slots[j].region == g.slots[i].region
      && g.slots[j].home == g.slots[i].home) = true ∧ g.slots[j].written.getLsbD k = true := by
  simp [Staging.versionHolds, Slot.live, and_assoc]

/-- A search from the tail of a list finds the last that holds. -/
theorem find?_reverse_filter {α : Type} {p q : α → Bool} {older between : List α} {j : α} (hp : p j = true)
    (hq : q j = true) (hb : ∀ x ∈ between, ¬(p x = true ∧ q x = true)) :
    ((older ++ j :: between).filter p).reverse.find? q = some j := by
  have hnone : (between.filter p).reverse.find? q = none := List.find?_eq_none.2 fun x hx hqx => by
    obtain ⟨hx, hpx⟩ := List.mem_filter.1 (List.mem_reverse.1 hx)
    exact hb x hx ⟨hpx, hqx⟩
  rw [List.filter_append, List.filter_cons_of_pos hp, List.reverse_append, List.reverse_cons, List.append_assoc,
    List.singleton_append, List.find?_append, hnone, Option.none_or, List.find?_cons_of_pos hq]

/-- What such a search finds is the last that holds. -/
theorem find?_reverse_filter_some {α : Type} {p q : α → Bool} {l : List α} {j : α}
    (h : (l.filter p).reverse.find? q = some j) :
    p j = true ∧ q j = true ∧ ∃ older between, l = older ++ j :: between ∧ ∀ x ∈ between, ¬(p x = true ∧ q x = true) := by
  induction l with
  | nil => cases h
  | cons x l ih =>
    have hsplit : (List.filter p (x :: l)).reverse.find? q
        = ((l.filter p).reverse.find? q).or ((List.filter p [x]).reverse.find? q) := by
      rw [← List.find?_append, ← List.reverse_append, ← List.filter_append, List.singleton_append]
    rw [hsplit] at h
    cases hl : (l.filter p).reverse.find? q with
    | some y =>
      rw [hl, Option.some_or] at h
      obtain rfl : y = j := by simpa using h
      obtain ⟨hp, hq, older, between, rfl, hb⟩ := ih hl
      exact ⟨hp, hq, x :: older, between, rfl, hb⟩
    | none =>
      rw [hl, Option.none_or] at h
      have hx : j = x ∧ p x = true ∧ q x = true := by
        by_cases hpx : p x = true
        · by_cases hqx : q x = true <;> simp [hpx, hqx] at h
          exact ⟨h.symm, hpx, hqx⟩
        · simp [hpx] at h
      obtain ⟨rfl, hp, hq⟩ := hx
      refine ⟨hp, hq, [], l, rfl, fun y hy ⟨hpy, hqy⟩ => ?_⟩
      exact List.find?_eq_none.1 hl y (List.mem_reverse.2 (List.mem_filter.2 ⟨hy, hpy⟩)) hqy

/-- The part of the chain before a slot that stands in it once. -/
theorem takeWhile_ne {α : Type} [DecidableEq α] {a b : List α} {i : α} (h : i ∉ a) :
    (a ++ i :: b).takeWhile (· != i) = a := by
  have hall : ∀ x ∈ a, (x != i) = true := fun x hx => bne_iff_ne.2 fun e => h (e ▸ hx)
  rw [List.takeWhile_append_of_pos hall]
  simp

/-- R109: the next older version gives its byte. -/
theorem Staging.nextOlder.olderByte {i j : Fin 8} {k : Nat} (h : g.nextOlder i j k) :
    g.olderByte i k = some (g.slots[j].byte k) := by
  obtain ⟨older, between, newer, hc, hi, hj, hb⟩ := h
  obtain ⟨hp, hq⟩ := Staging.versionHolds_iff.1 hj
  have hwhile : g.chain.takeWhile (· != i) = older ++ j :: between := by
    rw [hc]
    exact takeWhile_ne hi
  have hfind := find?_reverse_filter (older := older) (p := fun x => g.slots[x].live
    && g.slots[x].region == g.slots[i].region && g.slots[x].home == g.slots[i].home)
    (q := fun x => g.slots[x].written.getLsbD k) hp hq fun x hx hpq => hb x hx (Staging.versionHolds_iff.2 hpq)
  rw [Staging.olderByte, Staging.byteFrom, Staging.olderVersions, hwhile, hfind]
  rfl

/-- R109: a byte found is that of the next older version. -/
theorem Staging.olderByte_some {i : Fin 8} {k : Nat} {b : Byte} (hi : i ∈ g.chain) (h : g.olderByte i k = some b) :
    ∃ j, g.nextOlder i j k ∧ b = g.slots[j].byte k := by
  rw [Staging.olderByte, Staging.byteFrom] at h
  obtain ⟨j, hj, rfl⟩ := Option.map_eq_some_iff.1 h
  obtain ⟨hp, hq, older, between, hwhile, hb⟩ := find?_reverse_filter_some hj
  obtain ⟨a, c, hac, hia⟩ := List.eq_append_cons_of_mem hi
  rw [hac, takeWhile_ne hia] at hwhile
  subst hwhile
  exact ⟨j, ⟨older, between, c, hac, hia, Staging.versionHolds_iff.2 ⟨hp, hq⟩,
    fun x hx hv => hb x hx (Staging.versionHolds_iff.1 hv)⟩, rfl⟩

/-- A byte that an older version gives lies at an offset of the IMAGE. -/
theorem Staging.olderByte_lt {i : Fin 8} {k : Nat} {b : Byte} (h : g.olderByte i k = some b) : k < 128 := by
  rw [Staging.olderByte, Staging.byteFrom] at h
  obtain ⟨j, hj, -⟩ := Option.map_eq_some_iff.1 h
  have hw : g.slots[j].written.getLsbD k = true := List.find?_some (p := fun x : Fin 8 => g.slots[x].written.getLsbD k) hj
  exact Slot.written_lt hw

/-! ## Bytes that came from an older version -/

/-- R109: the byte at offset `k` of slot `i` is that of its next older version. -/
def Staging.copied (g : Staging) (i : Fin 8) (k : Nat) : Prop :=
  ∃ j, g.nextOlder i j k ∧ g.slots[i].byte k = g.slots[j].byte k

/-- The byte just filled in. -/
theorem Staging.copied_filled {i : Fin 8} {k : Nat} {b : Byte} (hi : i ∈ g.chain) (hb : g.olderByte i k = some b) :
    (g.filled i k b).copied i k := by
  have hk := Staging.olderByte_lt hb
  obtain ⟨j, ⟨older, between, newer, hc, hni, hj, hbet⟩, rfl⟩ := Staging.olderByte_some hi hb
  have hji : j ≠ i := fun e => hni (by simp [e])
  refine ⟨j, ⟨older, between, newer, hc, hni, (Staging.filled_versionHolds _ hk i j k).2 (.inl hj), fun x hx hv => ?_⟩, ?_⟩
  · rcases (Staging.filled_versionHolds _ hk i x k).1 hv with hv | ⟨-, rfl, -⟩
    · exact hbet x hx hv
    · exact hni (by simp [hx])
  · rw [Staging.filled, Staging.setSlot_same, Staging.setSlot_other _ _ hji, Slot.store_byte_same _ _ hk]

/-- A byte filled in before keeps its source, or has the slot just filled as its new one. -/
theorem Staging.copied.filled {i m : Fin 8} {k n : Nat} {b : Byte} (h : g.copied m n) (hc : g.chain.Nodup)
    (hm : g.slots[m].written.getLsbD n = true) (hi : g.slots[i].written.getLsbD k = false)
    (hb : g.olderByte i k = some b) : (g.filled i k b).copied m n := by
  have hk := Staging.olderByte_lt hb
  obtain ⟨j, ⟨older, between, newer, hchain, hnm, hj, hbet⟩, hbyte⟩ := h
  have hjw : g.slots[j].written.getLsbD n = true := (Staging.versionHolds_iff.1 hj).2
  by_cases hnew : i ∈ between ∧ n = k ∧ (g.slots[i].state ≠ .free ∧ g.slots[i].region = g.slots[m].region
      ∧ g.slots[i].home = g.slots[m].home)
  · obtain ⟨hibet, rfl, hst, hreg, hhome⟩ := hnew
    obtain ⟨b1, b2, rfl⟩ := List.append_of_mem hibet
    have hchain' : g.chain = (older ++ j :: b1) ++ i :: (b2 ++ m :: newer) := by simp [hchain]
    have hnodup := hchain' ▸ hc
    have hi1 : i ∉ older ++ j :: b1 := fun hx => (List.nodup_append.1 hnodup).2.2 i hx i (by simp) rfl
    have hi2 : i ∉ b2 := fun hx =>
      (List.nodup_cons.1 (List.nodup_append.1 hnodup).2.1).1 (List.mem_append_left _ hx)
    have hsame : ∀ x, g.versionHolds i x n ↔ g.versionHolds m x n := fun x => by
      simp only [Staging.versionHolds, hreg, hhome]
    have hsource : g.nextOlder i j n := ⟨older, b1, b2 ++ m :: newer, hchain', hi1, (hsame j).2 hj,
      fun x hx hv => hbet x (List.mem_append_left _ hx) ((hsame x).1 hv)⟩
    have hval : b = g.slots[j].byte n := Option.some.inj (hb.symm.trans hsource.olderByte)
    refine ⟨i, ⟨older ++ j :: b1, b2, newer, by simpa [Staging.filled] using hchain', by simpa using hnm,
      (Staging.filled_versionHolds _ hk m i n).2 (.inr ⟨⟨hst, hreg, hhome⟩, rfl, rfl⟩), fun x hx hv => ?_⟩, ?_⟩
    · rcases (Staging.filled_versionHolds _ hk m x n).1 hv with hv | ⟨-, rfl, -⟩
      · exact hbet x (by simp [hx]) hv
      · exact hi2 hx
    · rw [Staging.filled_byte _ hi hm, hbyte, Staging.filled, Staging.setSlot_same, Slot.store_byte_same _ _ hk, hval]
  · refine ⟨j, ⟨older, between, newer, hchain, hnm, (Staging.filled_versionHolds _ hk m j n).2 (.inl hj), fun x hx hv => ?_⟩, ?_⟩
    · rcases (Staging.filled_versionHolds _ hk m x n).1 hv with hv | ⟨hrec, rfl, hn⟩
      · exact hbet x hx hv
      · exact hnew ⟨hx, hn, hrec⟩
    · rw [Staging.filled_byte _ hi hm, Staging.filled_byte _ hi hjw, hbyte]

/-! ## The walk -/

/-- R109: what a walk over offsets of slots keeps: the bytes held, the slots it does not visit, and, of those it visits, the
other offsets. -/
theorem Staging.mergeThrough_keeps (l : List (Fin 8 × Nat)) (g : Staging) :
    (∀ (j : Fin 8) (n : Nat), g.slots[j].written.getLsbD n = true →
        (Staging.mergeThrough l g).slots[j].written.getLsbD n = true
          ∧ (Staging.mergeThrough l g).slots[j].byte n = g.slots[j].byte n)
      ∧ (∀ j : Fin 8, (∀ x ∈ l, x.1 ≠ j) → (Staging.mergeThrough l g).slots[j] = g.slots[j])
      ∧ ∀ (j : Fin 8) (n : Nat), (Staging.mergeThrough l g).slots[j].written.getLsbD n = true →
          g.slots[j].written.getLsbD n = true ∨ (j, n) ∈ l := by
  induction l generalizing g with
  | nil => exact ⟨fun _ _ h => ⟨h, rfl⟩, fun _ _ => rfl, fun _ _ h => .inl h⟩
  | cons x l ih =>
    obtain ⟨i, k⟩ := x
    cases hw : g.slots[i].written.getLsbD k with
    | true =>
      rw [Staging.mergeThrough_held l hw]
      obtain ⟨hheld, hout, hnew⟩ := ih g
      exact ⟨hheld, fun j hj => hout j fun x hx => hj x (List.mem_cons_of_mem _ hx),
        fun j n h => (hnew j n h).imp_right (List.mem_cons_of_mem _)⟩
    | false =>
      cases hb : g.olderByte i k with
      | none =>
        rw [Staging.mergeThrough_stops l hw hb]
        exact ⟨fun _ _ h => ⟨h, rfl⟩, fun _ _ => rfl, fun _ _ h => .inl h⟩
      | some b =>
        have hk := Staging.olderByte_lt hb
        rw [Staging.mergeThrough_found l hw hb]
        obtain ⟨hheld, hout, hnew⟩ := ih (g.filled i k b)
        refine ⟨fun j n h => ?_, fun j hj => ?_, fun j n h => ?_⟩
        · obtain ⟨h1, h2⟩ := hheld j n ((Staging.filled_written b hk j n).2 (.inl h))
          exact ⟨h1, h2.trans (Staging.filled_byte b hw h)⟩
        · have hji : j ≠ i := fun e => hj (i, k) List.mem_cons_self e.symm
          exact (hout j fun x hx => hj x (List.mem_cons_of_mem _ hx)).trans (Staging.setSlot_other _ _ hji)
        · rcases hnew j n h with h | h
          · rcases (Staging.filled_written b hk j n).1 h with h | ⟨rfl, rfl⟩
            · exact .inl h
            · exact .inr List.mem_cons_self
          · exact .inr (List.mem_cons_of_mem _ h)

/-- R109: the walk ends with every offset held, or stops at the first that no older version holds. -/
theorem Staging.mergeThrough_ends (l : List (Fin 8 × Nat)) (g : Staging) :
    (∀ x ∈ l, (Staging.mergeThrough l g).slots[x.1].written.getLsbD x.2 = true)
      ∨ ∃ l1 i k l2, l = l1 ++ (i, k) :: l2
        ∧ (∀ x ∈ l1, (Staging.mergeThrough l g).slots[x.1].written.getLsbD x.2 = true)
        ∧ (Staging.mergeThrough l g).slots[i].written.getLsbD k = false
        ∧ (Staging.mergeThrough l g).olderByte i k = none := by
  induction l generalizing g with
  | nil => exact .inl nofun
  | cons x l ih =>
    obtain ⟨i, k⟩ := x
    have step : ∀ g' : Staging, Staging.mergeThrough ((i, k) :: l) g = Staging.mergeThrough l g' →
        (Staging.mergeThrough l g').slots[i].written.getLsbD k = true →
        (∀ x ∈ (i, k) :: l, (Staging.mergeThrough ((i, k) :: l) g).slots[x.1].written.getLsbD x.2 = true)
          ∨ ∃ l1 j n l2, (i, k) :: l = l1 ++ (j, n) :: l2
            ∧ (∀ x ∈ l1, (Staging.mergeThrough ((i, k) :: l) g).slots[x.1].written.getLsbD x.2 = true)
            ∧ (Staging.mergeThrough ((i, k) :: l) g).slots[j].written.getLsbD n = false
            ∧ (Staging.mergeThrough ((i, k) :: l) g).olderByte j n = none := by
      intro g' he hw
      rw [he]
      rcases ih g' with hall | ⟨l1, j, n, l2, rfl, hl1, hj, hb⟩
      · exact .inl (List.forall_mem_cons.2 ⟨hw, hall⟩)
      · exact .inr ⟨(i, k) :: l1, j, n, l2, rfl, List.forall_mem_cons.2 ⟨hw, hl1⟩, hj, hb⟩
    cases hw : g.slots[i].written.getLsbD k with
    | true => exact step g (Staging.mergeThrough_held l hw) ((Staging.mergeThrough_keeps l g).1 i k hw).1
    | false =>
      cases hb : g.olderByte i k with
      | none =>
        rw [Staging.mergeThrough_stops l hw hb]
        exact .inr ⟨[], i, k, l, rfl, nofun, hw, hb⟩
      | some b =>
        have hfill := (Staging.filled_written (g := g) b (Staging.olderByte_lt hb) i k).2 (.inr ⟨rfl, rfl⟩)
        exact step (g.filled i k b) (Staging.mergeThrough_found l hw hb)
          ((Staging.mergeThrough_keeps l (g.filled i k b)).1 i k hfill).1

/-- The bytes that a store has over another all come from older versions. -/
def Staging.copiedSince (g0 g : Staging) : Prop :=
  ∀ i ∈ g.chain, ∀ k, g0.slots[i].written.getLsbD k = false → g.slots[i].written.getLsbD k = true → g.copied i k

/-- R109: every byte that the walk fills in comes from the next older version. -/
theorem Staging.copiedSince.mergeThrough {g0 g : Staging} (l : List (Fin 8 × Nat)) (hc : g.chain.Nodup)
    (h : g0.copiedSince g) : g0.copiedSince (Staging.mergeThrough l g) := by
  induction l generalizing g with
  | nil => exact h
  | cons x l ih =>
    obtain ⟨i, k⟩ := x
    cases hw : g.slots[i].written.getLsbD k with
    | true => rw [Staging.mergeThrough_held l hw]; exact ih hc h
    | false =>
      cases hb : g.olderByte i k with
      | none => rw [Staging.mergeThrough_stops l hw hb]; exact h
      | some b =>
        rw [Staging.mergeThrough_found l hw hb]
        refine ih (g := g.filled i k b) hc fun m hm n h0 h1 => ?_
        rcases (Staging.filled_written b (Staging.olderByte_lt hb) m n).1 h1 with h1 | ⟨rfl, rfl⟩
        · exact (h m hm n h0 h1).filled hc h1 hw hb
        · exact Staging.copied_filled hm hb

end Sys2Proof.Machine
end

section
/-! SUPPORT. The Writer's take and its merge (R108, R109), and what a held write leaves of the Writer's slots. -/

namespace Sys2Proof.Machine

variable {s : State}

/-! ## The offset that the merge needs -/

/-- R109: no byte is needed where every offset of the group is held. -/
theorem Staging.mergeNeed_eq_none {g : Staging} {is : List (Fin 8)} :
    g.mergeNeed is = none ↔ ∀ i ∈ is, ∀ k, k < g.slots[i].length → g.slots[i].written.getLsbD k = true := by
  rw [Staging.mergeNeed, List.find?_eq_none]
  constructor
  · intro h i hi k hk
    simpa using h (i, k) (Staging.mem_mergeOrder.2 ⟨hi, hk⟩)
  · intro h x hx
    obtain ⟨hi, hk⟩ := Staging.mem_mergeOrder.1 hx
    simpa using h x.1 hi x.2 hk

/-- The offsets of a group are those of its slots' lengths. -/
theorem Staging.mergeOrder_congr {g g' : Staging} {is : List (Fin 8)}
    (h : ∀ i : Fin 8, g'.slots[i].length = g.slots[i].length) : g'.mergeOrder is = g.mergeOrder is := by
  simp only [Staging.mergeOrder, h]

/-- R109: where the walk stops, no older version holds the offset needed. -/
theorem Staging.mergeNeed_stopped {g : Staging} {is : List (Fin 8)}
    (hlen : ∀ i : Fin 8, (Staging.mergeThrough (g.mergeOrder is) g).slots[i].length = g.slots[i].length) {i : Fin 8} {k : Nat}
    (hn : (Staging.mergeThrough (g.mergeOrder is) g).mergeNeed is = some (i, k)) :
    (Staging.mergeThrough (g.mergeOrder is) g).olderByte i k = none := by
  have horder := Staging.mergeOrder_congr (is := is) hlen
  rw [Staging.mergeNeed, horder] at hn
  rcases Staging.mergeThrough_ends (g.mergeOrder is) g with hall | ⟨l1, m, n, l2, hl, hl1, hm, hb⟩
  · have hmem := List.mem_of_find?_eq_some hn
    have hnot := List.find?_some hn
    rw [hall _ hmem] at hnot
    cases hnot
  · have hfirst : (g.mergeOrder is).find? (fun x => !(Staging.mergeThrough (g.mergeOrder is) g).slots[x.1].written.getLsbD x.2)
        = some (m, n) := by
      have hnone : l1.find? (fun x => !(Staging.mergeThrough (g.mergeOrder is) g).slots[x.1].written.getLsbD x.2) = none :=
        List.find?_eq_none.2 fun x hx => by rw [hl1 x hx]; nofun
      generalize Staging.mergeThrough (g.mergeOrder is) g = g' at hm hnone ⊢
      rw [hl, List.find?_append, hnone, Option.none_or, List.find?_cons, hm]
      rfl
    rw [hfirst] at hn
    obtain ⟨rfl, rfl⟩ : m = i ∧ n = k := by simpa using hn
    exact hb

/-! ## The take (R108) -/

/-- R108: the store in which the merge begins. -/
def Staging.grouped (g : Staging) (grp : Group) (rest : List Group) : Staging :=
  { g.setStates grp.slots .writing with queue := rest }

/-- R109: the store in which the take's merge ends. -/
def Staging.merged (g : Staging) (grp : Group) (rest : List Group) : Staging :=
  Staging.mergeThrough ((g.grouped grp rest).mergeOrder grp.slots) (g.grouped grp rest)

/-- R107, R108: the Writer after the take. -/
def State.takenWriter (s : State) (grp : Group) (rest : List Group) : Writer :=
  { Writer.idle with
    phase := if ((s.stage.merged grp rest).mergeNeed grp.slots).isNone then .place else .merge,
    group := some grp, length := (s.stage.grouped grp rest).groupLength grp.slots }

/-- R108, R109: WRITER_TAKE_GROUP with a group in the queue. -/
theorem exec_writerTakeGroup {grp : Group} {rest : List Group} (hs : s.supply = true) (ho : s.ctrl.opState = .running)
    (hp : s.writer.phase = .idle) (hc : s.writer.clearing = 0) (hq : s.stage.queue = grp :: rest) :
    exec .writerTakeGroup s
      = .next ((s.setStage (s.stage.merged grp rest)).setWriter (s.takenWriter grp rest)).chooseThenHeld := by
  have hfree : s.writerFree = true := by simp [State.writerFree, hs, ho, hp, hc]
  simp only [exec, execWriterTakeGroup, hfree, if_true, hq]
  congr 2
  unfold State.mergeOn State.takenWriter
  dsimp only
  by_cases hn : ((s.stage.merged grp rest).mergeNeed grp.slots).isNone = true
  · rw [if_pos hn]
    exact (if_pos hn).trans rfl
  · rw [if_neg hn]
    exact (if_neg hn).trans rfl

/-- R85, R108: what the walk of the take finds. -/
theorem Staging.grouped_slot (g : Staging) (grp : Group) (rest : List Group) (i : Fin 8) :
    (g.grouped grp rest).slots[i] = if i ∈ grp.slots then { g.slots[i] with state := .writing } else g.slots[i] := by
  obtain ⟨hin, hout, -⟩ := g.setStates_cases grp.slots .writing
  split
  · exact hin i ‹_›
  · exact hout i ‹_›

/-- R108: a take changes the state of its slots alone, not their records, lengths or bytes. -/
theorem Staging.grouped_keeps (g : Staging) (grp : Group) (rest : List Group) (i : Fin 8) :
    (g.grouped grp rest).slots[i].region = g.slots[i].region ∧ (g.grouped grp rest).slots[i].home = g.slots[i].home
      ∧ (g.grouped grp rest).slots[i].length = g.slots[i].length
      ∧ (g.grouped grp rest).slots[i].openNumber = g.slots[i].openNumber
      ∧ (g.grouped grp rest).slots[i].image = g.slots[i].image
      ∧ (g.grouped grp rest).slots[i].written = g.slots[i].written := by
  rw [Staging.grouped_slot]
  split <;> exact ⟨rfl, rfl, rfl, rfl, rfl, rfl⟩

/-- R108, R109: the merge of a take changes bytes alone. -/
theorem Staging.merged_sameButBytes (g : Staging) (grp : Group) (rest : List Group) :
    (∀ i : Fin 8, (g.grouped grp rest).slots[i].sameButBytes (g.merged grp rest).slots[i])
      ∧ (g.merged grp rest).queue = rest ∧ (g.merged grp rest).held = g.held
      ∧ (g.merged grp rest).chain = g.chain ∧ (g.merged grp rest).openCounter = g.openCounter := by
  obtain ⟨-, -, -, hh, hc, ho⟩ := g.setStates_cases grp.slots .writing
  obtain ⟨hs, hq, hh', hc', ho'⟩ := Staging.mergeThrough_sameButBytes
    ((g.grouped grp rest).mergeOrder grp.slots) (g.grouped grp rest) fun x hx => by
      rw [Staging.grouped_slot, if_pos (Staging.mem_mergeOrder.1 hx).1]
      nofun
  exact ⟨hs, hq, hh'.trans hh, hc'.trans hc, ho'.trans ho⟩

/-- R109: a slot outside the group is untouched. -/
theorem Staging.merged_other (g : Staging) {grp : Group} (rest : List Group) {i : Fin 8} (hi : i ∉ grp.slots) :
    (g.merged grp rest).slots[i] = g.slots[i] := by
  have hout := (Staging.mergeThrough_keeps ((g.grouped grp rest).mergeOrder grp.slots) (g.grouped grp rest)).2.1 i
    fun x hx e => hi (e ▸ (Staging.mem_mergeOrder.1 hx).1)
  refine hout.trans ?_
  rw [Staging.grouped_slot, if_neg hi]

/-- R109: a byte that a slot held it still holds. -/
theorem Staging.merged_held (g : Staging) (grp : Group) (rest : List Group) {i : Fin 8} {k : Nat}
    (h : g.slots[i].written.getLsbD k = true) :
    (g.merged grp rest).slots[i].written.getLsbD k = true ∧ (g.merged grp rest).slots[i].byte k = g.slots[i].byte k := by
  obtain ⟨-, -, -, -, himage, hwritten⟩ := g.grouped_keeps grp rest i
  obtain ⟨hw, hb⟩ := (Staging.mergeThrough_keeps ((g.grouped grp rest).mergeOrder grp.slots)
    (g.grouped grp rest)).1 i k (by rw [hwritten]; exact h)
  exact ⟨hw, hb.trans (by rw [Slot.byte, himage, Slot.byte])⟩

/-- R109: a byte filled in lies below the slot's LENGTH and comes from the next older version. -/
theorem Staging.merged_filled (g : Staging) (grp : Group) (rest : List Group) {i : Fin 8} {k : Nat}
    (h : g.slots[i].written.getLsbD k = false) (h' : (g.merged grp rest).slots[i].written.getLsbD k = true) :
    k < g.slots[i].length ∧ (g.chain.Nodup → i ∈ g.chain → (g.merged grp rest).copied i k) := by
  obtain ⟨-, -, hlen, -, -, hwritten⟩ := g.grouped_keeps grp rest i
  obtain ⟨-, -, -, hchain, -⟩ := g.merged_sameButBytes grp rest
  have hchain0 : (g.grouped grp rest).chain = g.chain := (g.setStates_cases grp.slots .writing).2.2.2.2.1
  have h0 : (g.grouped grp rest).slots[i].written.getLsbD k = false := by rw [hwritten]; exact h
  refine ⟨?_, fun hnodup hi => ?_⟩
  · rcases (Staging.mergeThrough_keeps ((g.grouped grp rest).mergeOrder grp.slots) (g.grouped grp rest)).2.2 i k h' with hc | hm
    · rw [h0] at hc; cases hc
    · exact hlen ▸ (Staging.mem_mergeOrder.1 hm).2
  · have hstart : (g.grouped grp rest).copiedSince (g.grouped grp rest) := fun m _ n hf ht => by
      rw [hf] at ht; cases ht
    have hall := hstart.mergeThrough ((g.grouped grp rest).mergeOrder grp.slots) (hchain0 ▸ hnodup)
    exact hall i (hchain.symm ▸ hi : i ∈ (g.merged grp rest).chain) k h0 h'

theorem Staging.merged_length (g : Staging) (grp : Group) (rest : List Group) (i : Fin 8) :
    (g.merged grp rest).slots[i].length = g.slots[i].length := by
  obtain ⟨hs, -⟩ := g.merged_sameButBytes grp rest
  obtain ⟨-, -, -, hlen, -⟩ := hs i
  exact hlen.trans (g.grouped_keeps grp rest i).2.2.1

/-- R109: the offset at which a take's merge stops is one of the group's, without a byte, and no older version holds it. -/
theorem Staging.merged_stopped (g : Staging) (grp : Group) (rest : List Group) {i : Fin 8} {k : Nat}
    (h : (g.merged grp rest).mergeNeed grp.slots = some (i, k)) :
    i ∈ grp.slots ∧ k < g.slots[i].length ∧ (g.merged grp rest).slots[i].written.getLsbD k = false
      ∧ ∀ j, ¬(g.merged grp rest).nextOlder i j k := by
  obtain ⟨hi, hk, hw⟩ := Staging.mergeNeed_some h
  have hnone : (g.merged grp rest).olderByte i k = none := by
    refine Staging.mergeNeed_stopped (fun n => ?_) h
    obtain ⟨-, -, -, hlen, -⟩ := (g.merged_sameButBytes grp rest).1 n
    exact hlen
  refine ⟨hi, by rwa [g.merged_length] at hk, hw, fun j hj => ?_⟩
  rw [hj.olderByte] at hnone
  cases hnone

/-- R108: the states of the slots after the take. -/
theorem Staging.merged_state (g : Staging) (grp : Group) (rest : List Group) (i : Fin 8) :
    (g.merged grp rest).slots[i].state = if i ∈ grp.slots then .writing else g.slots[i].state := by
  obtain ⟨hstate, -⟩ := (g.merged_sameButBytes grp rest).1 i
  rw [hstate, Staging.grouped_slot]
  split <;> rfl

end Sys2Proof.Machine

open Sys2Proof Sys2Proof.Machine

/-- Settles O37: the take's walk fills in what older versions hold and stops at the first offset that none holds. -/
theorem writerTakesHeadGroup : Obligations.WriterTakesHeadGroup := by
  unfold Obligations.WriterTakesHeadGroup
  intro s hs ho hp hc
  refine ⟨fun hq => ?_, fun grp rest hq => ?_⟩
  · simp only [exec, execWriterTakeGroup, hq, ite_self]
  · have hexec := exec_writerTakeGroup hs ho hp hc hq
    obtain ⟨hsame, hqueue, hheld, hchain, hopen⟩ := s.stage.merged_sameButBytes grp rest
    have hstate := s.stage.merged_state grp rest
    refine ⟨fun hhold hex hnext => ⟨_, hexec, ?_⟩, fun hquiet => ?_⟩
    · refine State.chooseThenHeld_heldWriteServed hhold rfl rfl rfl rfl hopen (fun i => ?_) (fun k hk => ?_) hex hnext
      · change (s.stage.merged grp rest).slots[i].state = .free ↔ _
        rw [hstate i]
        split <;> simp [*, State.slot]
      · change (s.stage.merged grp rest).slots[k].state = .filling at hk
        rw [hstate k] at hk
        split at hk
        · cases hk
        · exact s.stage.merged_other rest ‹_›
    · rw [State.chooseThenHeld_of_quiet (s := s) ?_ ?_ hquiet] at hexec
      · have hlen : (s.takenWriter grp rest).length = 8 + (grp.slots.map fun i => 4 + (s.slot i).length).sum := by
          have hl : (s.stage.grouped grp rest).groupLength grp.slots = s.stage.groupLength grp.slots := by
            simp only [Staging.groupLength, fun i => (s.stage.grouped_keeps grp rest i).2.2.1]
          refine hl.trans ?_
          rw [Staging.groupLength, entryLength, List.map_map]
          rfl
        have hphase : (s.takenWriter grp rest).phase
            = if ((s.stage.merged grp rest).mergeNeed grp.slots).isNone then .place else .merge := rfl
        refine ⟨_, _, hexec, hqueue, hheld, hchain, hopen, ?_, fun i hi => ?_, fun i hi => s.stage.merged_other rest hi,
          fun i k h => s.stage.merged_held grp rest h, fun i _ k h h' => s.stage.merged_filled grp rest h h', ?_, ?_, ?_⟩
        · rw [← hlen]
          rfl
        · obtain ⟨-, hreg, hhome, hl, hnum, -⟩ := hsame i
          obtain ⟨kreg, khome, kl, knum, -⟩ := s.stage.grouped_keeps grp rest i
          exact ⟨(hstate i).trans (if_pos hi), hreg.trans kreg, hhome.trans khome, hl.trans kl, hnum.trans knum⟩
        · rw [hphase]
          split
          · exact .inr rfl
          · exact .inl rfl
        · have hall : ((s.stage.merged grp rest).mergeNeed grp.slots).isNone = true ↔ ∀ i ∈ grp.slots, ∀ k,
              k < (s.slot i).length → (s.stage.merged grp rest).slots[i].written.getLsbD k = true := by
            rw [Option.isNone_iff_eq_none, Staging.mergeNeed_eq_none]
            simp only [s.stage.merged_length grp rest, State.slot]
          rw [hphase, ← hall]
          split <;> simp [*]
        · intro hm
          rw [hphase] at hm
          cases hn : (s.stage.merged grp rest).mergeNeed grp.slots with
          | none => rw [hn] at hm; cases hm
          | some x =>
            obtain ⟨hi, hk, hw, hno⟩ := s.stage.merged_stopped grp rest hn
            exact ⟨x.1, x.2, hi, hk, rfl, hw, hno⟩
      · rfl
      · intro i hi
        change (s.stage.merged grp rest).slots[i].state = .free at hi
        rw [hstate i] at hi
        split at hi
        · cases hi
        · exact hi
end

section
/-! SUPPORT. The merge's read (R109): the byte read is stored, and neither the merge nor a held write that is then served
changes a byte that the Writer's slots hold. -/

namespace Sys2Proof.Machine

variable {s t : State}

/-! ## A served cycle spares the Writer's slots -/

/-- The slots in state WRITING are the same in `t` as in `s`. -/
def State.sparesWriting (s t : State) : Prop :=
  ∀ i : Fin 8, (s.slot i).state = .writing → t.slot i = s.slot i

theorem State.sparesWriting_of_stage (h : t.stage = s.stage) : s.sparesWriting t := fun i _ => by
  rw [State.slot, h, State.slot]

theorem State.sparesWriting.trans {u : State} (h : s.sparesWriting t) (h' : t.sparesWriting u) : s.sparesWriting u :=
  fun i hi => (h' i (by rw [h i hi, hi])).trans (h i hi)

/-- R48, R69, R71: closing changes the slot itself and those HELD on its region. -/
theorem State.closedBy_other (s : State) {i k : Fin 8} (r : RecordRef) (hk : k ≠ i) (hh : ∀ t : Fin 8, k ∉ s.stage.held[t]) :
    (s.closedBy i r).slot k = s.slot k := by
  unfold State.slot
  by_cases hc : r.isCommit = true
  · cases hf : r.follows with
    | some t =>
      by_cases hl : s.stage.held[t].length < 3
      · rw [State.closedBy_follower hc hf hl, State.setStage_stage, (s.stage.hold_cases i t).2.1 k hk]
      · have hlimit : s.closedBy i r = s.groupLimit r.region t := by
          rw [State.closedBy, if_pos hc, State.closeSlot, hf]
          exact if_neg hl
        rw [hlimit]
        rfl
    | none =>
      by_cases ht : r.isTrigger = true
      · rw [State.closedBy_trigger hc hf ht, State.setStage_stage,
          (s.stage.closeTrigger_cases i r.region).2.1 k (by simpa [hk] using hh r.region)]
      · rw [State.closedBy_unlinked hc hf (by simpa using ht), State.setStage_stage,
          (s.stage.enqueue_cases i [i]).2.1 k (by simpa using hk)]
  · rw [State.closedBy, if_neg hc]

/-- R68: a WRITING slot stands on no held list. -/
theorem State.stagingRight.writing_not_held (h : s.stagingRight) {k : Fin 8} (hk : (s.slot k).state = .writing) (t : Fin 8) :
    k ∉ s.stage.held[t] := by
  obtain ⟨⟨-, -, -, hheld, -⟩, -⟩ := h
  intro hm
  obtain ⟨hst, -⟩ := (hheld k t).2 hm
  rw [hk] at hst
  cases hst

/-- R46, R48: a RECORD write changes FILLING, FREE and HELD slots alone. -/
theorem State.stageWrite_sparesWriting (h : s.stagingRight) (r : RecordRef) : s.sparesWriting (s.stageWrite r) := by
  intro k hk
  have hheld := h.writing_not_held hk
  unfold State.stageWrite
  split
  · rename_i i hf
    have hki : k ≠ i := fun e => by
      have := Staging.fillingSlot_state hf
      rw [← e] at this
      exact absurd (hk.symm.trans this) (by decide)
    refine (State.closedBy_other
      (s.setStage (s.stage.setSlot i (s.stage.slots[i].store r.offset s.host.data))) r hki hheld).trans ?_
    exact Staging.setSlot_other _ _ hki
  · split
    · rename_i i hf
      have hki : k ≠ i := fun e => by
        have := Staging.lowestFree_state hf
        rw [← e] at this
        exact absurd (hk.symm.trans this) (by decide)
      refine (State.closedBy_other ((s.setStage (s.stage.allocate i r)).setStage
        ((s.stage.allocate i r).setSlot i ((s.stage.allocate i r).slots[i].store r.offset s.host.data))) r hki hheld).trans ?_
      exact (Staging.setSlot_other _ _ hki).trans (Staging.allocate_other s.stage r hki)
    · split
      · rfl
      · simp [State.slot]

theorem State.serve_sparesWriting (h : s.stagingRight) : s.sparesWriting s.serve := by
  by_cases ho : s.ctrl.opState = .running
  · have hserve : s.serve = (s.setHost { s.host with found := some (s.lookup s.host.addr.toNat) }).serveRunning
        (s.lookup s.host.addr.toNat) := by
      simp only [State.serve, ho]
    have hright : (s.setHost { s.host with found := some (s.lookup s.host.addr.toNat) }).stagingRight :=
      h.of_eq rfl rfl rfl fun ho => ho
    rw [hserve]
    rcases State.serveRunning_stage (s.setHost { s.host with found := some (s.lookup s.host.addr.toNat) })
      (s.lookup s.host.addr.toNat) with e | ⟨r, -, -, e⟩
    · exact State.sparesWriting_of_stage e
    · intro i hi
      have hw := State.stageWrite_sparesWriting hright r i hi
      rw [State.slot, e]
      exact hw
  · exact State.sparesWriting_of_stage (State.serve_stage ho)

theorem State.endSlotHold_sparesWriting (h : s.stagingRight) : s.sparesWriting s.endSlotHold := by
  unfold State.endSlotHold State.redecodeHeld
  split
  · split
    · exact State.serve_sparesWriting h
    · exact State.sparesWriting_of_stage rfl
  · exact State.sparesWriting_of_stage rfl

theorem State.grant_sparesWriting (s : State) : s.sparesWriting s.grant :=
  State.sparesWriting_of_stage (by simp)

theorem State.chooseThenHeld_sparesWriting (h : s.stagingRight) : s.sparesWriting s.chooseThenHeld := by
  unfold State.chooseThenHeld
  dsimp only
  refine s.grant_sparesWriting.trans (State.sparesWriting.trans ?_ (State.grant_sparesWriting _))
  split
  · exact State.sparesWriting_of_stage rfl
  · exact State.endSlotHold_sparesWriting (State.grant_stagingRight h)

/-- R52: what follows an access leaves the Writer's slots. -/
theorem State.afterAccess_sparesWriting (h : s.stagingRight) (o : Order) : s.sparesWriting (s.afterAccess o) := by
  have hnow : s.sparesWriting (s.endSlotHold.grantBy o) :=
    (State.endSlotHold_sparesWriting h).trans (State.sparesWriting_of_stage (by simp))
  unfold State.afterAccess
  cases o with
  | heldFirst => exact hnow
  | heldThenTake => exact hnow
  | otherFirst => exact State.chooseThenHeld_sparesWriting h
  | takeFirst =>
    dsimp only
    split
    · exact State.sparesWriting_of_stage rfl
    · exact State.chooseThenHeld_sparesWriting h

/-! ## The byte read -/

/-- R109: the store with the byte read in the slot in work. -/
theorem State.mergeTake_stage {i : Fin 8} {k : Nat} (b : Byte) (hn : s.stage.mergeNeed s.writer.slots = some (i, k)) :
    (s.mergeTake b).stage = Staging.mergeThrough ((s.stage.filled i k b).mergeOrder s.writer.slots) (s.stage.filled i k b) := by
  have htake : s.mergeTake b = (s.setStage (s.stage.filled i k b)).mergeOn := by
    simp only [State.mergeTake, hn]
    rfl
  rw [htake, State.mergeOn]
  dsimp only
  split <;> rfl

theorem State.mergeTake_of_none (b : Byte) (hn : s.stage.mergeNeed s.writer.slots = none) : s.mergeTake b = s := by
  simp only [State.mergeTake, hn]

/-- The group of the Writer stays while a byte is merged. -/
theorem State.mergeTake_slots (s : State) (b : Byte) : (s.mergeTake b).writer.slots = s.writer.slots := by
  unfold State.mergeTake
  split
  · unfold State.mergeOn
    dsimp only
    split <;> rfl
  · rfl

/-- A byte stored keeps every offset that was held. -/
theorem Staging.filled_held {g : Staging} (i : Fin 8) (k : Nat) (b : Byte) {j : Fin 8} {n : Nat}
    (h : g.slots[j].written.getLsbD n = true) : (g.filled i k b).slots[j].written.getLsbD n = true := by
  by_cases hj : j = i
  · subst hj
    rw [Staging.filled, Staging.setSlot_same, Slot.store_written]
    exact .inl h
  · rw [Staging.filled, Staging.setSlot_other _ _ hj]
    exact h

/-- R109: a byte that a slot held it holds after the merge took a byte. -/
theorem State.mergeTake_held (b : Byte) {j : Fin 8} {n : Nat} (h : (s.slot j).written.getLsbD n = true) :
    ((s.mergeTake b).slot j).written.getLsbD n = true ∧ ((s.mergeTake b).slot j).byte n = (s.slot j).byte n := by
  cases hn : s.stage.mergeNeed s.writer.slots with
  | none =>
    rw [State.mergeTake_of_none b hn]
    exact ⟨h, rfl⟩
  | some x =>
    obtain ⟨i, k⟩ := x
    obtain ⟨-, -, hw⟩ := Staging.mergeNeed_some hn
    have hbyte := Staging.filled_byte b hw h
    obtain ⟨h1, h2⟩ := (Staging.mergeThrough_keeps ((s.stage.filled i k b).mergeOrder s.writer.slots)
      (s.stage.filled i k b)).1 j n (Staging.filled_held i k b h)
    rw [State.slot, State.mergeTake_stage b hn]
    exact ⟨h1, h2.trans hbyte⟩

/-- R109: the offset needed then holds the byte read. -/
theorem State.mergeTake_stored (b : Byte) {i : Fin 8} {k : Nat} (hk : k < 128)
    (hn : s.stage.mergeNeed s.writer.slots = some (i, k)) :
    ((s.mergeTake b).slot i).written.getLsbD k = true ∧ ((s.mergeTake b).slot i).byte k = b := by
  have hw : (s.stage.filled i k b).slots[i].written.getLsbD k = true :=
    (Staging.filled_written b hk i k).2 (.inr ⟨rfl, rfl⟩)
  obtain ⟨h1, h2⟩ := (Staging.mergeThrough_keeps ((s.stage.filled i k b).mergeOrder s.writer.slots)
    (s.stage.filled i k b)).1 i k hw
  rw [State.slot, State.mergeTake_stage b hn]
  refine ⟨h1, h2.trans ?_⟩
  rw [Staging.filled, Staging.setSlot_same, Slot.store_byte_same _ _ hk]

end Sys2Proof.Machine

open Sys2Proof Sys2Proof.Machine

/-- Settles O38: the merge stores at an offset without a byte, and what follows the access leaves the Writer's slots. -/
theorem mergeKeepsHeldBytes : Obligations.MergeKeepsHeldBytes := by
  unfold Obligations.MergeKeepsHeldBytes
  refine ⟨fun s i k home ho hp hn hh => ?_, fun s t a ord i k hs hright ha how hop hp hexec => ?_⟩
  · have hhome : s.homeOf i = home.toNat := by rw [State.homeOf, hh]; rfl
    simp only [State.writerWants, ho, if_true, hp, hn, Option.map_some, hhome]
  · have hm : a.addr < memorySize s.ctrl.straps := by
      by_contra hc
      have hnone : s.completeAccess a .ok = none := if_neg hc
      simp [exec, execMemoryAccessComplete, hs, ha, hnone] at hexec
    have hdone : (s.setPort { s.port with inFlight := none }).stagingRight := hright.of_eq rfl rfl rfl fun ho => ho
    have hidle : (s.setPort { s.port with inFlight := none }).writer.phase ≠ .idle := by
      rw [State.setPort_writer, hp]
      nofun
    have htake := State.mergeTake_stagingRight hdone hidle (s.mem.read a.addr)
    have hfinal : t = ((s.setPort { s.port with inFlight := none }).mergeTake (s.mem.read a.addr)).afterAccess ord := by
      rw [exec_accessComplete_ok ord hs ha hm, how, State.deliver, State.accessDone_read hop, State.accessByte_read hop,
        State.writerTake, State.setPort_writer, hp] at hexec
      exact (Host.Outcome.next.inj hexec).symm
    have hkeep : ∀ j ∈ s.writer.slots,
        t.slot j = ((s.setPort { s.port with inFlight := none }).mergeTake (s.mem.read a.addr)).slot j := fun j hj => by
      rw [hfinal]
      refine State.afterAccess_sparesWriting htake ord j (htake.writer_state ?_)
      rw [State.mergeTake_slots]
      exact hj
    refine ⟨fun hi hw => ?_, fun hk hn => ?_⟩
    · rw [hkeep i hi]
      exact State.mergeTake_held (s := s.setPort { s.port with inFlight := none }) _ hw
    · rw [hkeep i (Staging.mergeNeed_some hn).1]
      exact State.mergeTake_stored (s := s.setPort { s.port with inFlight := none }) _ hk hn
end

section
/-! SUPPORT. Recovery's anchor choice and the end of a scan (R140, R148, R150), and what follows an access where no write is
in the slot hold. -/

namespace Sys2Proof.Machine

variable {s : State}

/-! ## What follows an access without a slot hold -/

/-- The slot hold is a hold of the RUNNING state. -/
def State.noSlotHold (s : State) : Prop :=
  s.host.phase ≠ .holding ∨ s.ctrl.opState ≠ .running

theorem State.noSlotHold.endSlotHold_eq (h : s.noSlotHold) : s.endSlotHold = s := by
  have hredecode : s.redecodeHeld = s := by
    unfold State.redecodeHeld
    split
    · rename_i hp _ ho
      exact h.elim (absurd hp) (absurd ho)
    · rfl
  rw [State.endSlotHold, hredecode, ite_self]

/-- A grant begins no hold. -/
theorem State.noSlotHold.grant (h : s.noSlotHold) : s.grant.noSlotHold := by
  rcases h with h | h
  · refine .inl ?_
    rcases State.grant_cases s with e | ⟨r, a, -, -, e⟩ | ⟨a, -, -, e⟩
    · rwa [e]
    · rw [e]
      cases r with
      | host => exact fun h => HostPhase.noConfusion h
      | writer => exact h
      | applier => exact h
    · rwa [e]
  · exact .inr (by simpa using h)

/-- R52: without a slot hold only the arbiter's choice follows an access. -/
theorem State.noSlotHold.afterAccess_eq (h : s.noSlotHold) (o : Order) : s.afterAccess o = s.grantBy o := by
  have hchoose : s.chooseThenHeld = s.grant := by
    unfold State.chooseThenHeld
    dsimp only
    rw [h.grant.endSlotHold_eq, ite_self, State.grant_grant]
  unfold State.afterAccess
  cases o <;> simp [h.endSlotHold_eq, hchoose, State.grantBy, takeGoesFirst]

/-- R108, R111, R118: an engine's take has its occasion in RUNNING alone. -/
theorem State.takeNext_of_not_running (ho : s.ctrl.opState ≠ .running) : s.takeNext = false := by
  unfold State.takeNext
  split <;> simp [State.writerFree, State.writerPlacing, State.applierFree, ho]

/-- Outside RUNNING the arbiter's choice follows an access at once. -/
theorem State.afterAccess_of_not_running (ho : s.ctrl.opState ≠ .running) (o : Order) : s.afterAccess o = s.grant := by
  rw [State.noSlotHold.afterAccess_eq (.inr ho), State.grantBy, State.takeNext_of_not_running ho, Bool.and_false]
  exact if_neg Bool.false_ne_true

/-- R36: a read of recovery, the loader or the format completes. -/
theorem exec_systemRead {a : Access} (ord : Order) (hs : s.supply = true) (ha : s.port.inFlight = some a)
    (how : a.owner = .system) (hop : a.op = .read) (hm : a.addr < memorySize s.ctrl.straps) :
    exec (.memoryAccessComplete .ok ord) s
      = .next (((s.setPort { s.port with inFlight := none }).systemTake (s.mem.read a.addr)).afterAccess ord) := by
  rw [exec_accessComplete_ok ord hs ha hm, State.accessDone_read hop, State.accessByte_read hop, how]
  rfl

/-! ## The anchor choice (R140) -/

/-- The byte that completes the two anchor copies. -/
theorem State.recoveryTake_last (b : Byte) (hp : s.ctrl.recovery.phase = .anchors) (hl : s.ctrl.recovery.buf.length = 31) :
    s.recoveryTake b = s.anchorsRead (s.ctrl.recovery.buf ++ [b]) := by
  simp only [State.recoveryTake, hp]
  exact if_neg (by omega)

/-- R98, R140: no copy is valid and AFMT is low. -/
theorem State.anchorsRead_none {bs : List Byte} (hafmt : s.ctrl.straps.afmt = false)
    (hc : chooseAnchor (readAnchor s.ctrl.straps (bs.take 16)) (readAnchor s.ctrl.straps (bs.drop 16)) = none) :
    s.anchorsRead bs = s.enterLocked := by
  simp [State.anchorsRead, hc, hafmt]

/-- R140, R141: recovery's working state at the first position of the scan, in a journal of length `j`. -/
def Recovery.scanFrom (r : Recovery) (j : Nat) (one : Bool) (x : AnchorRecord) : Recovery :=
  { r with
    phase := .scan
    buf := []
    oneAnchor := one
    p := if x.head = j then 0 else x.head
    expected := x.next
    anchorHead := x.head }

/-- R140: a copy is chosen, and no position is passed over yet. -/
theorem State.anchorsRead_some {bs : List Byte} {c : AnchorCopy} {x : AnchorRecord} (hadv : s.ctrl.recovery.advance = 0)
    (hc : chooseAnchor (readAnchor s.ctrl.straps (bs.take 16)) (readAnchor s.ctrl.straps (bs.drop 16)) = some (c, x)) :
    s.anchorsRead bs = (s.setJournal { s.journal with inUse := some c, generation := x.generation }).setRecovery
      (s.ctrl.recovery.scanFrom s.journalLength
        ((readAnchor s.ctrl.straps (bs.take 16)).isNone || (readAnchor s.ctrl.straps (bs.drop 16)).isNone) x) := by
  have hj : 2048 ≤ s.journalLength := journalSize_ge _
  simp only [State.anchorsRead, hc]
  exact if_neg (by
    change ¬s.journalLength ≤ s.ctrl.recovery.advance
    omega)

/-- R39, R141: the mark at the first position is read next. -/
theorem State.scan_afterAccess {g : Journal} {r : Recovery} (ord : Order) (hs : s.supply = true)
    (ho : s.ctrl.opState = .recovering) (hp : s.port.inFlight = none) (hh : s.host.phase = .idle) (hr : r.phase = .scan)
    (hb : r.buf = []) :
    ((s.setJournal g).setRecovery r).afterAccess ord = ((s.setJournal g).setRecovery r).setPort
      { s.port with inFlight := some { owner := .system, addr := s.journalAddr r.p, op := .read } } := by
  have hwants : ((s.setJournal g).setRecovery r).systemWants
      = some { owner := .system, addr := s.journalAddr r.p, op := .read } := by
    simp [State.systemWants, State.recoveryWants, State.setRecovery, ho, hr, hb, State.journalAddr]
  exact (State.afterAccess_of_not_running (s := (s.setJournal g).setRecovery r)
      (fun h => OpState.noConfusion (ho.symm.trans h)) ord).trans
    (State.grant_of_systemWants hs hp (fun h => HostPhase.noConfusion (hh.symm.trans h)) hwants)

/-- With no cycle held, a hold that the state ends ends nothing. -/
theorem State.endStateHold_of_phase (h : s.host.phase ≠ .holding) : s.endStateHold = s := by
  unfold State.endStateHold
  split
  · exact absurd ‹_› h
  · exact absurd ‹_› h
  · exact absurd ‹_› h
  · exact absurd ‹_› h
  · rfl

/-- R98, R140, R151: what LOCKED is entered with. -/
theorem State.enterLocked_effect (hh : s.host.phase ≠ .holding) :
    s.enterLocked.ctrl.opState = .locked ∧ s.enterLocked.ctrl.hrsto = false
      ∧ s.enterLocked.ctrl.report =
        { RecoveryReport.cleared s.ctrl.straps with
          outcome := .noAnchor, unread := true, cause := s.ctrl.startCause, generation := 0 }
      ∧ s.enterLocked.journal = Journal.cleared ∧ s.enterLocked.table = s.table ∧ s.enterLocked.stage = s.stage
      ∧ s.enterLocked.mem = s.mem
      ∧ s.enterLocked.events =
        ((s.events.arrive { kind := .noAnchor, detail := 0, region := none, address := none, count := 0 }).arrive
          { kind := .recovered, detail := 0x03, region := none, address := none, count := BitVec.ofNat 8 0 }).evaluate
            s.table.mask := by
  rw [show s.enterLocked = _ from State.endStateHold_of_phase hh]
  exact ⟨rfl, rfl, rfl, rfl, rfl, rfl, rfl, EventBlock.arrive_evaluate_evaluate _ _ _ _⟩

/-! ## The end of a scan (R141, R148) -/

/-- R141: a byte that is no mark of an entry or a PAD ends the scan. -/
theorem State.recoveryTake_no_mark {b : Byte} (hp : s.ctrl.recovery.phase = .scan) (hb : s.ctrl.recovery.buf = [])
    (hm : b ∉ [(0xA5 : Byte), 0x5A, 0xC3]) : s.recoveryTake b = s.scanEnd := by
  simp only [List.mem_cons, List.not_mem_nil, or_false, not_or] at hm
  obtain ⟨hvalid, hretired, hpad⟩ := hm
  have hmark : s.scanMark b = s.scanEnd :=
    (if_neg (show b ≠ markPad from hpad)).trans (if_neg (not_or.2 ⟨hvalid, hretired⟩))
  simp [State.recoveryTake, hp, State.scanTake, hb, hmark]

theorem saturate_of_le {n : Nat} (h : n ≤ 255) : saturate n = n := Nat.min_eq_left h

/-- R148: the address logged for a scan that ends inside the journal. -/
theorem State.scanAddress_of_lt {p : Nat} (h : p < s.journalLength) :
    s.scanAddress p = toAddr (s.base + 128 + p) := by
  rw [State.scanAddress, if_neg (Nat.ne_of_lt h)]
  rfl

/-- R148, R150, R151: what the end of a scan leaves. -/
theorem State.scanEnd_effect (hp : s.ctrl.recovery.p < s.journalLength) (hr : s.ctrl.recovery.replays ≤ 255)
    (hf : s.ctrl.recovery.firstFaults ≤ 255) :
    let r := s.ctrl.recovery
    let o : RecoveryOutcome := if r.replays = 0 ∧ r.lag = false then .clean else .replayed
    s.scanEnd.ctrl.opState = .initload ∧ s.scanEnd.ctrl.hrsto = true ∧ s.scanEnd.ctrl.loader = []
      ∧ s.scanEnd.journal = { s.journal with
          live := [], tail := r.p, head := r.anchorHead, nextWrite := r.expected, nextApply := r.expected,
          held := forwardDistance s.journalLength r.anchorHead r.p }
      ∧ s.scanEnd.ctrl.report =
        { RecoveryReport.cleared s.ctrl.straps with
          outcome := o, unread := true, cause := s.ctrl.startCause, generation := s.journal.generation,
          replayCount := r.replays, lag := r.lag, damaged := r.damaged, oneAnchor := r.oneAnchor,
          firstFaults := r.firstFaults }
      ∧ s.scanEnd.events = (s.events.arrive
          { kind := .recovered, detail := o.code, region := none, address := some (toAddr (s.base + 128 + r.p)),
            count := BitVec.ofNat 8 r.replays }).evaluate s.table.mask
      ∧ s.scanEnd.table.entries = RegionTable.noEntries := by
  intro r o
  have haddr := State.scanAddress_of_lt hp
  refine ⟨rfl, rfl, rfl, rfl, ?_, ?_, rfl⟩
  · rw [← saturate_of_le hr, ← saturate_of_le hf]
    rfl
  · rw [← saturate_of_le hr, ← haddr]
    rfl

end Sys2Proof.Machine

open Sys2Proof Sys2Proof.Machine

/-- Settles O45: each case is the byte taken, and then the grant of recovery's or the loader's next read. -/
theorem recoveryChoosesAndEnds : Obligations.RecoveryChoosesAndEnds := by
  unfold Obligations.RecoveryChoosesAndEnds
  intro s a ord hs ho ha how hop hm hh r bs choice report noAnchor recovered
  have hexec := exec_systemRead ord hs ha how hop hm
  have htake : (s.setPort { s.port with inFlight := none }).systemTake (s.mem.read a.addr)
      = (s.setPort { s.port with inFlight := none }).recoveryTake (s.mem.read a.addr) := by
    simp only [State.systemTake, State.setPort_ctrl, ho]
  rw [htake] at hexec
  refine ⟨fun hp hl hc hafmt => ?_, fun c x hp hl hc hadv => ?_, fun hp hb hmark hlt hr hf => ?_⟩
  · have hstep := (State.recoveryTake_last (s := s.setPort { s.port with inFlight := none }) (s.mem.read a.addr) hp hl).trans
      (State.anchorsRead_none hafmt hc)
    obtain ⟨ho', hrsto, hreport, hjournal, htable, hstage, hmem, hevents⟩ :=
      State.enterLocked_effect (s := s.setPort { s.port with inFlight := none }) (by simp [hh])
    rw [hstep, State.afterAccess_of_not_running (by rw [ho']; nofun)] at hexec
    refine ⟨_, hexec, ?_⟩
    simp only [State.grant_frame, ho', hrsto, hreport, hjournal, htable, hstage, hmem, hevents]
    exact ⟨trivial, trivial, rfl, rfl, rfl, rfl, rfl, rfl, rfl, rfl, rfl, rfl⟩
  · have hstep := (State.recoveryTake_last (s := s.setPort { s.port with inFlight := none }) (s.mem.read a.addr) hp hl).trans
      (State.anchorsRead_some hadv hc)
    rw [hstep, State.scan_afterAccess (s := s.setPort { s.port with inFlight := none }) ord hs ho rfl hh rfl rfl] at hexec
    refine ⟨_, hexec, ho, rfl, rfl, rfl, rfl, rfl, rfl, ?_, rfl, rfl, rfl⟩
    exact Bool.or_eq_true_iff.trans (or_congr Option.isNone_iff_eq_none Option.isNone_iff_eq_none)
  · rw [State.recoveryTake_no_mark (s := s.setPort { s.port with inFlight := none }) hp hb hmark] at hexec
    obtain ⟨ho', hrsto, hloader, hjournal, hreport, hevents, hentries⟩ :=
      State.scanEnd_effect (s := s.setPort { s.port with inFlight := none }) hlt hr hf
    have hgrant := State.grant_of_systemWants (s := (s.setPort { s.port with inFlight := none }).scanEnd)
      (by simpa using hs) (by simp) (by simp [hh]) (State.systemWants_beginLoad ho' (by simp) hloader)
    rw [State.afterAccess_of_not_running (by rw [ho']; nofun), hgrant] at hexec
    refine ⟨_, hexec, ho', hrsto, hjournal, hreport, hevents, fun i => ?_, ?_, ?_, ?_⟩
    · rw [State.setPort_table, hentries]
      exact RegionTable.noEntries_get i
    · simp [State.base]
    · simp
    · simp
end

section
/-! SUPPORT. The end of a profile load (R162 to R164): the values taken, the events in order, and the cycle that is served
then. -/

namespace Sys2Proof.Machine

variable {s t : State}

/-! ## Events that arrive one after the other -/

/-- R182: two blocks that differ in ALERT# alone differ in it alone after the same arrivals. -/
theorem EventBlock.foldl_arrive_congr (rs : List EventReport) {e e' : EventBlock} (h : ∀ m, e.evaluate m = e'.evaluate m)
    (m : Word16) : (rs.foldl EventBlock.arrive e).evaluate m = (rs.foldl EventBlock.arrive e').evaluate m := by
  induction rs generalizing e e' with
  | nil => exact h m
  | cons r rs ih =>
    refine ih fun m => ?_
    rw [← EventBlock.arrive_evaluate_evaluate e r 0 m, h 0, EventBlock.arrive_evaluate_evaluate]

/-! ## One entry of the block (R163 step 4) -/

/-- R163: what entry `i` of a block becomes, judged against the entries loaded before it. -/
def loadedEntry (bs : List Byte) (base : Nat) (before : Vector RegionEntry 8) (i : Fin 8) : RegionEntry :=
  let e := rawEntry (entryBytesAt bs (8 + 8 * i.val))
  if e.valid = true ∧ e.firstFailing before base i = none then e.stored else RegionEntry.invalid

/-- R163: the PROFILE_BAD of an entry stored valid that is rejected. -/
def entryReport (bs : List Byte) (base : Nat) (before : Vector RegionEntry 8) (i : Fin 8) : Option EventReport :=
  let e := rawEntry (entryBytesAt bs (8 + 8 * i.val))
  if e.valid then
    (e.firstFailing before base i).map fun n =>
      { kind := .profileBad, detail := 0x01, region := some i,
        address := some (toAddr (base + 40 + 8 * i.val)), count := BitVec.ofNat 8 n }
  else none

theorem State.loadEntry_same {bs : List Byte} {i : Fin 8} (hi : s.table.entries[i] = RegionEntry.invalid) :
    (State.loadEntry bs s i).table.entries[i] = loadedEntry bs s.base s.table.entries i := by
  unfold State.loadEntry loadedEntry
  generalize rawEntry (entryBytesAt bs (8 + 8 * i.val)) = e
  dsimp only
  split
  · rename_i hv
    split
    · rename_i hn
      exact (RegionTable.set_same _ _ _).trans (if_pos ⟨hv, hn⟩).symm
    · rename_i hn
      refine Eq.trans ?_ (if_neg fun ⟨_, h⟩ => ?_).symm
      · exact hi
      · rw [h] at hn
        cases hn
  · rename_i hv
    exact hi.trans (if_neg fun ⟨h, _⟩ => hv h).symm

theorem State.loadEntry_events (s : State) (bs : List Byte) (i : Fin 8) (m : Word16) :
    (State.loadEntry bs s i).events.evaluate m
      = ((entryReport bs s.base s.table.entries i).toList.foldl EventBlock.arrive s.events).evaluate m := by
  unfold State.loadEntry entryReport
  generalize rawEntry (entryBytesAt bs (8 + 8 * i.val)) = e
  dsimp only
  split
  · split
    · rename_i hn
      rw [hn]
      rfl
    · rename_i hn
      rw [hn]
      simp only [State.logProfileBad, State.logEvent, State.setEvents_events, EventBlock.evaluate_evaluate, Option.map_some,
        Option.toList_some, List.foldl_cons, List.foldl_nil, Nat.add_assoc]
  · rfl

/-! ## The entries in order -/

/-- Entries at indices that are not loaded stay. -/
theorem State.loadEntries_other (bs : List Byte) {is : List (Fin 8)} {k : Fin 8} (hk : k ∉ is) :
    (is.foldl (State.loadEntry bs) s).table.entries[k] = s.table.entries[k] := by
  induction is generalizing s with
  | nil => rfl
  | cons i is ih =>
    obtain ⟨hki, hkis⟩ := not_or.1 (mt List.mem_cons.2 hk)
    rw [List.foldl_cons, ih hkis, State.loadEntry_other bs hki]

theorem RegionTable.below_get (entries : Vector RegionEntry 8) (i k : Fin 8) :
    (RegionTable.below entries i)[k] = if k < i then entries[k] else RegionEntry.invalid := by
  simp [RegionTable.below]

/-- R163: the table against which an entry is judged is the final one below that entry. -/
theorem State.loadEntries_below (bs : List Byte) {i : Fin 8} {is : List (Fin 8)} (hsorted : (i :: is).Pairwise (· < ·))
    (hempty : ∀ k, i ≤ k → s.table.entries[k] = RegionEntry.invalid) :
    RegionTable.below ((i :: is).foldl (State.loadEntry bs) s).table.entries i = s.table.entries := by
  refine Vector.ext fun n hn => ?_
  have hget := RegionTable.below_get ((i :: is).foldl (State.loadEntry bs) s).table.entries i ⟨n, hn⟩
  refine hget.trans ?_
  by_cases hlt : (⟨n, hn⟩ : Fin 8) < i
  · rw [if_pos hlt]
    refine State.loadEntries_other bs fun hmem => ?_
    rcases List.mem_cons.1 hmem with e | hmem
    · exact absurd e (ne_of_lt hlt)
    · exact lt_asymm hlt (List.rel_of_pairwise_cons hsorted hmem)
  · rw [if_neg hlt]
    exact (hempty ⟨n, hn⟩ (not_lt.1 hlt)).symm

/-- R163 step 4: the entries loaded in rising order, with the events of those rejected. -/
theorem State.loadEntries_effect (bs : List Byte) {is : List (Fin 8)} (hsorted : is.Pairwise (· < ·))
    (hempty : ∀ i ∈ is, ∀ k, i ≤ k → s.table.entries[k] = RegionEntry.invalid) :
    let E := (is.foldl (State.loadEntry bs) s).table.entries
    (∀ i ∈ is, E[i] = loadedEntry bs s.base (RegionTable.below E i) i)
      ∧ ∀ m, (is.foldl (State.loadEntry bs) s).events.evaluate m
          = ((is.filterMap fun i => entryReport bs s.base (RegionTable.below E i) i).foldl EventBlock.arrive
              s.events).evaluate m := by
  induction is generalizing s with
  | nil => exact ⟨nofun, fun m => rfl⟩
  | cons i is ih =>
    intro E
    have hbelow : RegionTable.below E i = s.table.entries :=
      State.loadEntries_below bs hsorted (hempty i List.mem_cons_self)
    have hi : s.table.entries[i] = RegionEntry.invalid := hempty i List.mem_cons_self i le_rfl
    have hlt : ∀ j ∈ is, i < j := fun j hj => List.rel_of_pairwise_cons hsorted hj
    have hbase : (State.loadEntry bs s i).base = s.base := by simp [State.base]
    obtain ⟨hentries, hevents⟩ := ih (s := State.loadEntry bs s i) (List.Pairwise.of_cons hsorted) fun j hj k hk => by
      rw [State.loadEntry_other bs (ne_of_gt (lt_of_lt_of_le (hlt j hj) hk))]
      exact hempty j (List.mem_cons_of_mem i hj) k hk
    rw [hbase] at hentries hevents
    refine ⟨fun j hj => ?_, fun m => ?_⟩
    · rcases List.mem_cons.1 hj with rfl | hj
      · rw [hbelow, ← State.loadEntry_same hi]
        exact State.loadEntries_other bs fun h => lt_irrefl _ (hlt j h)
      · exact hentries j hj
    · refine (hevents m).trans ?_
      refine (EventBlock.foldl_arrive_congr _ (fun m => State.loadEntry_events s bs i m) m).trans ?_
      rw [← List.foldl_append, List.filterMap_cons, hbelow]
      cases entryReport bs s.base s.table.entries i <;> rfl

/-! ## A good block (R163) -/

/-- R163 step 2: the default class taken, and the PROFILE_BAD of a code that is none. -/
theorem State.loadDefault_effect (s : State) (code : Byte) :
    (s.loadDefault code).table = { s.table with
        defaultClass := (defaultClassOfCode code).getD (if s.ctrl.straps.defro then .readonly else .openClass) }
      ∧ ∀ m, (s.loadDefault code).events.evaluate m
          = (List.foldl EventBlock.arrive s.events (if (defaultClassOfCode code).isNone then
              [{ kind := .profileBad, detail := 0x02, region := none, address := some (toAddr (s.base + 35)), count := 0 }]
            else [])).evaluate m := by
  unfold State.loadDefault
  cases h : defaultClassOfCode code with
  | some d => exact ⟨rfl, fun m => rfl⟩
  | none => exact ⟨rfl, fun m => rfl⟩

/-- A state that differs from another in the table and the events alone. -/
theorem State.eq_setTable_setEvents (hpending : t.pending = s.pending) (hsupply : t.supply = s.supply)
    (hpins : t.pins = s.pins) (hctrl : t.ctrl = s.ctrl) (hstage : t.stage = s.stage) (hjournal : t.journal = s.journal)
    (hwriter : t.writer = s.writer) (happlier : t.applier = s.applier) (hhost : t.host = s.host) (hport : t.port = s.port)
    (hmgmt : t.mgmt = s.mgmt) (hmem : t.mem = s.mem) (hdraws : t.freeDraws = s.freeDraws) :
    t = (s.setTable t.table).setEvents t.events := by
  cases t
  cases s
  subst hpending hsupply hpins hctrl hstage hjournal hwriter happlier hhost hport hmgmt hmem hdraws
  rfl

theorem lowByte_wordAt (bs : List Byte) (k : Nat) : lowByte (wordAt bs k) = byteAt bs (k + 1) := by
  simp only [lowByte, wordAt, word16]
  exact BitVec.extractLsb'_append_eq_right

/-- R163 steps 1 to 3: the store count, the default class and the mask are taken before the entries. -/
def State.loadStart (s : State) (bs : List Byte) : State :=
  ((s.setCtrl { s.ctrl with lastCount := wordAt bs 1 }).loadDefault (byteAt bs 3)).changeMask (wordAt bs 4)

theorem State.loadStart_table (s : State) (bs : List Byte) :
    (s.loadStart bs).table =
      { entries := s.table.entries
        defaultClass := (defaultClassOfCode (byteAt bs 3)).getD (if s.ctrl.straps.defro then .readonly else .openClass)
        mask := wordAt bs 4 } := by
  have h := (State.loadDefault_effect (s.setCtrl { s.ctrl with lastCount := wordAt bs 1 }) (byteAt bs 3)).1
  simp only [State.loadStart, State.changeMask, State.setEvents_table, State.setTable_table, h]
  rfl

theorem State.loadStart_base (s : State) (bs : List Byte) : (s.loadStart bs).base = s.base := by
  simp [State.base, State.loadStart]

/-- R163 step 5: PROFILE_LOADED. -/
def profileLoaded (bs : List Byte) (base : Nat) (entries : Vector RegionEntry 8) : EventReport where
  kind := .profileLoaded
  detail := BitVec.ofNat 8 (indices8.countP fun i => entries[i].valid)
  region := none
  address := some (toAddr (base + 32))
  count := byteAt bs 2

theorem State.loadGood_eq (s : State) (bs : List Byte) :
    s.loadGood bs = (indices8.foldl (State.loadEntry bs) (s.loadStart bs)).logEvent
      (profileLoaded bs s.base (indices8.foldl (State.loadEntry bs) (s.loadStart bs)).table.entries) := by
  have hbase : profileBase (indices8.foldl (State.loadEntry bs) (s.loadStart bs)).ctrl.straps = s.base + 32 := by
    simp [State.loadStart, State.base, profileBase]
  rw [profileLoaded, ← hbase, ← lowByte_wordAt bs 1]
  rfl

/-- R163: what a good block leaves, loaded into an empty table. -/
theorem State.loadGood_effect (bs : List Byte) (hempty : ∀ i : Fin 8, s.table.entries[i] = RegionEntry.invalid) :
    ∃ tab ev, s.loadGood bs = ((s.setCtrl { s.ctrl with lastCount := wordAt bs 1 }).setTable tab).setEvents ev
      ∧ tab.mask = wordAt bs 4
      ∧ tab.defaultClass =
        (defaultClassOfCode (byteAt bs 3)).getD (if s.ctrl.straps.defro then .readonly else .openClass)
      ∧ (∀ i : Fin 8, tab.entries[i] = loadedEntry bs s.base (RegionTable.below tab.entries i) i)
      ∧ ev = ((s.loadEvents bs tab.entries).foldl EventBlock.arrive s.events).evaluate tab.mask := by
  have hstart := s.loadStart_table bs
  obtain ⟨hentries, hevents⟩ := State.loadEntries_effect (s := s.loadStart bs) bs (is := indices8) (by decide)
    fun i _ k _ => by
      rw [hstart]
      exact hempty k
  rw [State.loadStart_base] at hentries hevents
  have htable : (s.loadGood bs).table = (indices8.foldl (State.loadEntry bs) (s.loadStart bs)).table := by
    rw [State.loadGood_eq]
    rfl
  have hmask : (indices8.foldl (State.loadEntry bs) (s.loadStart bs)).table.mask = wordAt bs 4 := by simp [hstart]
  have hclass : (indices8.foldl (State.loadEntry bs) (s.loadStart bs)).table.defaultClass
      = (defaultClassOfCode (byteAt bs 3)).getD (if s.ctrl.straps.defro then .readonly else .openClass) := by simp [hstart]
  refine ⟨(s.loadGood bs).table, (s.loadGood bs).events, State.eq_setTable_setEvents (by simp) (by simp) (by simp) ?_ (by simp)
    (by simp) (by simp) (by simp) (by simp) (by simp) (by simp) (by simp) (by simp), ?_, ?_, ?_, ?_⟩
  · simp [State.loadGood]
  · rw [htable, hmask]
  · rw [htable, hclass]
  · rw [htable]
    exact fun i => hentries i (mem_indices8 i)
  · rw [htable, State.loadGood_eq]
    have hdefault : ∀ m, (s.loadStart bs).events.evaluate m = _ :=
      (State.loadDefault_effect (s.setCtrl { s.ctrl with lastCount := wordAt bs 1 }) (byteAt bs 3)).2
    rw [State.loadEvents, List.foldl_append, List.foldl_append]
    exact EventBlock.foldl_arrive_congr [_] (fun m =>
      (hevents m).trans (EventBlock.foldl_arrive_congr _ hdefault m)) _

/-! ## A bad block (R162), and the end of the load (R164) -/

/-- R162: the table of a bad block. -/
def RegionTable.bad (defro : Bool) : RegionTable where
  entries := RegionTable.noEntries
  defaultClass := if defro then .readonly else .openClass
  mask := 0xFFFF

theorem State.loadBad_eq (s : State) :
    s.loadBad = ((s.setCtrl { s.ctrl with lastCount := 0 }).setTable (RegionTable.bad s.ctrl.straps.defro)).setEvents
      ((s.events.arrive
        { kind := .profileBad, detail := 0x00, region := none, address := some (toAddr (s.base + 32)),
          count := 0 }).evaluate 0xFFFF) := by
  rw [← EventBlock.arrive_evaluate_evaluate s.events _ 0xFFFF]
  rfl

/-- R164: the part in RUNNING with the values of the block. -/
def State.loaded (s : State) (count : Word16) (tab : RegionTable) (ev : EventBlock) : State :=
  ((s.setCtrl { s.ctrl with opState := .running, hrsto := false, loader := [], lastCount := count }).setTable tab).setEvents ev

/-- R162 to R164: the last byte of the block gives the live values, and the hold of a start-up or a reload ends. -/
theorem State.systemTake_loaded (b : Byte) (ho : s.ctrl.opState ∈ [OpState.initload, .reloading])
    (hl : s.ctrl.loader.length = 71) (hempty : ∀ i : Fin 8, s.table.entries[i] = RegionEntry.invalid) :
    let bs := s.ctrl.loader ++ [b]
    let defro : DefaultClass := if s.ctrl.straps.defro then .readonly else .openClass
    ∃ count tab ev, s.systemTake b = (s.loaded count tab ev).endStateHold
      ∧ (profileGood bs = true →
        count = wordAt bs 1 ∧ tab.mask = wordAt bs 4 ∧ tab.defaultClass = (defaultClassOfCode (byteAt bs 3)).getD defro
          ∧ (∀ i : Fin 8, tab.entries[i] = loadedEntry bs s.base (RegionTable.below tab.entries i) i)
          ∧ ev = ((s.loadEvents bs tab.entries).foldl EventBlock.arrive s.events).evaluate tab.mask)
      ∧ (profileGood bs = false →
        count = 0 ∧ tab = RegionTable.bad s.ctrl.straps.defro
          ∧ ev = (s.events.arrive
            { kind := .profileBad, detail := 0x00, region := none, address := some (toAddr (s.base + 32)),
              count := 0 }).evaluate 0xFFFF) := by
  intro bs defro
  have htake : s.systemTake b = s.loadDone bs := by
    have hloader : s.loaderTake b = s.loadDone bs := if_neg (by omega)
    simp only [List.mem_cons, List.not_mem_nil, or_false] at ho
    rcases ho with ho | ho <;> simp only [State.systemTake, ho, hloader]
  rw [htake, State.loadDone]
  cases hg : profileGood bs with
  | true =>
    obtain ⟨tab, ev, hload, hmask, hclass, hentries, hev⟩ := s.loadGood_effect bs hempty
    rw [if_pos rfl, hload]
    exact ⟨_, tab, ev, rfl, fun _ => ⟨rfl, hmask, hclass, hentries, hev⟩, nofun⟩
  | false =>
    rw [if_neg Bool.false_ne_true, s.loadBad_eq]
    exact ⟨0, _, _, rfl, nofun, fun _ => ⟨rfl, rfl, rfl⟩⟩

/-! ## The cycle served then (R33) -/

/-- The state with its cycle in another phase and hold. -/
def State.asHeld (s : State) (p : HostPhase) (x : Option HoldKind) : State :=
  s.setHost { s.host with phase := p, hold := x }

theorem State.closeSlot_asHeld (s : State) (p : HostPhase) (x : Option HoldKind) (i : Fin 8) (r : RecordRef) :
    (s.asHeld p x).closeSlot i r = (s.closeSlot i r).asHeld p x := by
  have hstage : (s.asHeld p x).stage = s.stage := rfl
  unfold State.closeSlot
  rw [hstage]
  split
  · split <;> rfl
  · split <;> rfl

theorem State.storeInto_asHeld (s : State) (p : HostPhase) (x : Option HoldKind) (i : Fin 8) (r : RecordRef) :
    (s.asHeld p x).storeInto i r = s.storeInto i r := by
  have hanswer : ∀ u : State, (u.asHeld p x).answerWrite = u.answerWrite := fun _ => rfl
  unfold State.storeInto
  dsimp only
  split
  · refine Eq.trans (congrArg State.answerWrite ?_) (hanswer _)
    exact State.closeSlot_asHeld (s.setStage (s.stage.setSlot i (s.stage.slots[i].store r.offset s.host.data))) p x i r
  · rfl

theorem State.stageWrite_asHeld (s : State) (p : HostPhase) (x : Option HoldKind) (r : RecordRef) :
    (s.asHeld p x).stageWrite r = s.stageWrite r := by
  have hstage : (s.asHeld p x).stage = s.stage := rfl
  unfold State.stageWrite
  rw [hstage]
  split
  · exact s.storeInto_asHeld p x _ r
  · split
    · exact (s.setStage _).storeInto_asHeld p x _ r
    · split <;> rfl

/-- R25 to R28: the service does not look at the phase and the hold in which the cycle was. -/
theorem State.serveRunning_asHeld (s : State) (p : HostPhase) (x : Option HoldKind) (k : Lookup) :
    (s.asHeld p x).serveRunning k = s.serveRunning k := by
  have hstage : (s.asHeld p x).stage = s.stage := rfl
  have hkind : (s.asHeld p x).host.kind = s.host.kind := rfl
  have hhidden : (s.asHeld p x).serveHidden k.cls = s.serveHidden k.cls := by
    unfold State.serveHidden
    rw [hkind]
    dsimp only
    split <;> rfl
  unfold State.serveRunning
  rw [hkind, hhidden]
  split
  · rfl
  · split <;> rfl
  · rfl
  · rfl
  · split
    · unfold State.stageRead
      rw [hstage]
      split <;> rfl
    · exact s.stageWrite_asHeld p x _
    · rfl

/-- R52: after a service a write in the slot hold waits for a slot to become FREE. -/
theorem State.stageWrite_settles (s : State) (r : RecordRef) :
    (s.stageWrite r).host.hold = none ∨ (s.stageWrite r).stage.lowestFree = none := by
  unfold State.stageWrite
  split
  · exact .inl rfl
  · split
    · exact .inl rfl
    · split
      · exact .inr ‹_›
      · exact .inl rfl

theorem State.serveRunning_settles (s : State) (k : Lookup) :
    (s.serveRunning k).host.hold = none ∨ (s.serveRunning k).stage.lowestFree = none := by
  unfold State.serveRunning
  split
  · exact .inl rfl
  · split <;> exact .inl rfl
  · exact .inl (s.serveHidden_unheld _).1
  · exact .inl (s.serveHidden_unheld _).1
  · split
    · exact .inl (s.stageRead_unheld _).1
    · exact s.stageWrite_settles _
    · exact .inl rfl

/-- A held cycle is the captured one, in another phase and hold. -/
theorem HostPort.held_eq (h : HostPort) (hf : h.fate = .awaited) (hd : h.hd = none) (k : Option Lookup) :
    { h with found := k }
      = { HostPort.captured h.kind h.addr h.data with found := k, phase := h.phase, hold := h.hold } := by
  cases h
  subst hf hd
  rfl

/-- R33, R164: a cycle held until RUNNING is served as the same cycle taken afresh. -/
theorem State.serve_held (ho : s.ctrl.opState = .running) (hf : s.host.fate = .awaited) (hd : s.host.hd = none) :
    s.serve = ((s.setHost HostPort.idle).setHost (HostPort.captured s.host.kind s.host.addr s.host.data)).serve := by
  have hheld : s.setHost { s.host with found := some (s.lookup s.host.addr.toNat) }
      = ((s.setHost HostPort.idle).decoded s.host.kind s.host.addr s.host.data).asHeld s.host.phase s.host.hold :=
    congrArg s.setHost (s.host.held_eq hf hd _)
  rw [State.serve_captured_running _ _ _ (by exact ho), State.serve, ho]
  dsimp only
  rw [hheld, State.serveRunning_asHeld]
  rfl

/-- R52: after a service in RUNNING the arbiter's choice is all that follows. -/
theorem State.serve_afterAccess (ho : s.ctrl.opState = .running) (ord : Order) :
    s.serve.afterAccess ord = s.serve.grantBy ord := by
  have hserve : s.serve = (s.setHost { s.host with found := some (s.lookup s.host.addr.toNat) }).serveRunning
      (s.lookup s.host.addr.toNat) := by
    simp only [State.serve, ho]
  refine State.afterAccess_of_hold ord ?_
  rw [hserve]
  refine (State.serveRunning_settles _ _).imp_left fun h => ?_
  rw [h]
  nofun

/-- R23, R33, R164: the start-up and the reload hold end in RUNNING. -/
theorem State.endStateHold_running (ho : s.ctrl.opState = .running) (hp : s.host.phase = .holding)
    (hh : s.host.hold ∈ [some HoldKind.startUp, some .reload]) : s.endStateHold = s.serve := by
  simp only [List.mem_cons, List.not_mem_nil, or_false] at hh
  rcases hh with hh | hh <;> simp only [State.endStateHold, hp, hh, ho]

/-- R20: the cycle of a port, taken afresh in a port that is IDLE. -/
theorem State.exec_cycleAgain (hs : s.supply = true) (ho : s.ctrl.opState = .running) (hr : s.pins.srst = false) (h : HostPort) :
    exec (.hostCycle true (h.kind == .read) (h.kind == .write) h.addr h.data) (s.setHost HostPort.idle)
      = .next (((s.setHost HostPort.idle).setHost (HostPort.captured h.kind h.addr h.data)).serve).grant := by
  have ht : (s.setHost HostPort.idle).takesCycles = true :=
    State.takesCycles_iff.2 ⟨hs, rfl, hr, fun h => OpState.noConfusion (ho.symm.trans h)⟩
  cases hk : h.kind with
  | read => exact exec_hostCycle ht true h.addr h.data
  | write => exact exec_hostCycle ht false h.addr h.data

/-- R164: with no cycle held, only the arbiter's choice follows the load. -/
theorem State.loaded_unheld (ord : Order) {count : Word16} {tab : RegionTable} {ev : EventBlock}
    (hh : s.host.phase ≠ .holding) :
    (s.loaded count tab ev).endStateHold.afterAccess ord = (s.loaded count tab ev).grantBy ord :=
  (congrArg (State.afterAccess · ord) (State.endStateHold_of_phase (s := s.loaded count tab ev) hh)).trans
    (State.noSlotHold.afterAccess_eq (s := s.loaded count tab ev) (.inl hh) ord)

/-- R33, R164: a cycle held until the load ends is served as the same cycle taken in the loaded state. -/
theorem State.loaded_serves (ord : Order) {count : Word16} {tab : RegionTable} {ev : EventBlock} (hs : s.supply = true)
    (hr : s.pins.srst = false) (hp : s.host.phase = .holding) (hh : s.host.hold ∈ [some HoldKind.startUp, some .reload])
    (hf : s.host.fate = .awaited) (hd : s.host.hd = none) :
    ∃ v : State, exec (.hostCycle true (s.host.kind == .read) (s.host.kind == .write) s.host.addr s.host.data)
          ((s.loaded count tab ev).setHost HostPort.idle) = .next v.grant
      ∧ (s.loaded count tab ev).endStateHold.afterAccess ord = v.grantBy ord := by
  have hend := State.endStateHold_running (s := s.loaded count tab ev) rfl hp hh
  have hserve := State.serve_held (s := s.loaded count tab ev) rfl hf hd
  refine ⟨(s.loaded count tab ev).serve, ?_, ?_⟩
  · rw [hserve]
    exact State.exec_cycleAgain (s := s.loaded count tab ev) hs rfl hr s.host
  · rw [hend]
    exact State.serve_afterAccess (s := s.loaded count tab ev) rfl ord

end Sys2Proof.Machine

open Sys2Proof Sys2Proof.Machine

/-- Settles O46: the loader's last byte gives the live values; the held cycle is then served as one taken in that state. -/
theorem profileLoadSetsLiveValues : Obligations.ProfileLoadSetsLiveValues := by
  unfold Obligations.ProfileLoadSetsLiveValues
  intro s a ord hs ho ha how hop hm hl htable bs defro
  have hempty : ∀ i : Fin 8, s.table.entries[i] = RegionEntry.invalid := htable (by
    simp only [List.mem_cons, List.not_mem_nil, or_false] at ho ⊢
    tauto)
  obtain ⟨count, tab, ev, htake, hgood, hbad⟩ :=
    State.systemTake_loaded (s := s.setPort { s.port with inFlight := none }) (s.mem.read a.addr) ho hl hempty
  have hexec := exec_systemRead ord hs ha how hop hm
  rw [htake] at hexec
  refine ⟨count, tab, ev, fun hh => ?_, fun hh hhold hfate hhd hsrst => ?_, hgood, fun hg => ?_⟩
  · exact hexec.trans (congrArg _ (State.loaded_unheld (s := s.setPort { s.port with inFlight := none }) ord hh))
  · obtain ⟨v, hcycle, hafter⟩ :=
      State.loaded_serves (s := s.setPort { s.port with inFlight := none }) (count := count) (tab := tab) (ev := ev) ord hs hsrst
        hh hhold hfate hhd
    exact ⟨v, hcycle, hexec.trans (congrArg _ hafter)⟩
  · obtain ⟨hcount, rfl, hev⟩ := hbad hg
    exact ⟨hcount, rfl, rfl, fun i => RegionTable.noEntries_get i, hev⟩
end
